-- ==== Sys2Proof/Word.lean ====
section
/-! DEFINITION. The word types of the Optolink P300 protocol engine: a wire symbol or host register (R8 `BYTE`, R90),
a datapoint or procedure address (R8 `ADDR_W`, R101) and a host register offset (R8 `HOST_OFF_W`, R60). -/

namespace Sys2Proof

/-- A wire symbol or a host register: 8 bits (R90). -/
abbrev Byte := BitVec 8

/-- A datapoint or procedure address: 16 bits (R101). -/
abbrev Addr := BitVec 16

/-- A host register offset: 10 bits, 0x000 to 0x3FF (R60). -/
abbrev Off := BitVec 10

end Sys2Proof
end

