-- ==== Sys2Proof/Config.lean ====
section
/-! DEFINITION. The parameters of R8 as fields of one record with the spec's defaults, and the free values: what the
spec leaves as "any value" (93_implementation_defined.md I1, I2, I3). A free value has no body, so no proof can see it. -/

namespace Sys2Proof

/-- The parity of a serial line. R8 and R74 name even parity. -/
inductive Parity where
  | none | even | odd
  deriving DecidableEq, Repr

/-- The line settings of the external transport: the whole value of `BAUD` (R8, R74). -/
structure LineSettings where
  /-- Bits per second. -/
  rate : Nat := 4800
  /-- Data bits of a symbol. -/
  dataBits : Nat := 8
  /-- Parity bit of a symbol. -/
  parity : Parity := .even
  /-- Stop bits of a symbol. -/
  stopBits : Nat := 2
  deriving DecidableEq, Repr

/-- The implementation parameters of R8 (00_scope.md), each with its stated value as the default. -/
structure Config where
  /-- `BYTE`: width of a wire symbol and of a host register. -/
  byteBits : Nat := 8
  /-- `ADDR_W`: width of a datapoint or procedure address. -/
  addrBits : Nat := 16
  /-- `HS_POLLS`: polls per handshake stage. -/
  hsPolls : Nat := 30
  /-- `HS_INTERVAL` in ms; no outcome depends on it (R9). -/
  hsInterval : Nat := 100
  /-- `XCH_POLLS`: polls per datapoint exchange. -/
  xchPolls : Nat := 300
  /-- `XCH_INTERVAL` in ms; no outcome depends on it (R9). -/
  xchInterval : Nat := 10
  /-- `ERR_NIBBLE`: the low nibble that marks a device-reported error. -/
  errNibble : Byte := 0x03#8
  /-- `ERR_INDEX`: index in the response of the byte whose low nibble is tested (90_conflicts.md C5). -/
  errIndex : Nat := 3
  /-- `MAX_PAYLOADLEN`: largest PayloadLen a one-byte field holds. -/
  maxPayloadLen : Nat := 255
  /-- `MAX_WRITE_DATA`: largest data length of a WRITE. -/
  maxWriteData : Nat := 250
  /-- `MAX_RPC_ARGS`: largest argument length of an RPC. -/
  maxRpcArgs : Nat := 249
  /-- `RXBUF_CAP`: capacity of the accumulation buffer. -/
  rxbufCap : Nat := 259
  /-- `HOST_OFF_W`: width of a host register offset. -/
  hostOffBits : Nat := 10
  /-- `BAUD` of the external transport; the engine does not configure it (R74). -/
  baud : LineSettings := {}
  deriving DecidableEq, Repr

/-- The parameters this model runs with: the defaults of R8. -/
abbrev config : Config := {}

/-- FREE VALUE (I3, R72): the bytes the transport returns at the poll with engine-step number `n`, when the agenda
names none. Any finite list, under no law. Log entry 2. -/
opaque Config.rxDraw : Nat → List Byte

/-- FREE VALUE (I1, R26): the byte `TXDATA[i]` holds after the `epoch`-th reset, until it is written. Log entry 4. -/
opaque Config.txdataAtReset : Nat → Nat → Byte

/-- FREE VALUE (I2, R32): what a host read of `RXDATA[i]` at or beyond `RXLEN` returns after the `tick`-th engine
step. The same until the engine moves again (R63). Log entry 5. -/
opaque Config.rxdataAny : Nat → Nat → Byte

end Sys2Proof
end

