-- ==== Sys2Proof/Machine/Bits.lean ====
section
/-! DEFINITION. The byte and byte-list primitives of 00_scope.md section 5: `hi8`, `lo8`, address assembly (R101),
`slice`, and `sum8`. -/

namespace Sys2Proof.Machine

/-- `hi8(a)` = `a[15:8]`. -/
def hi8 (a : Addr) : Byte := a.extractLsb' 8 8

/-- `lo8(a)` = `a[7:0]`. -/
def lo8 (a : Addr) : Byte := a.extractLsb' 0 8

/-- `hi * 256 + lo` (R101). -/
def joinAddr (hi lo : Byte) : Addr := BitVec.ofNat 16 (hi.toNat * 256 + lo.toNat)

/-- `L[i]`; 0x00 where the index is past the end, which no rule reads. -/
def byteAt (l : List Byte) (i : Nat) : Byte := l.getD i 0

/-- `slice(L, a, b)`: the elements at indices `a` (included) to `b` (excluded), cut at the end of `L`. -/
def slice (l : List Byte) (a b : Nat) : List Byte := (l.take b).drop a

/-- `sum8(L)`: the exact sum of the elements, then taken modulo 256 (R135). -/
def sum8 (l : List Byte) : Byte := BitVec.ofNat 8 (l.map BitVec.toNat).sum

/-- The low nibble `b[3:0]` of a byte, as a byte. -/
def lowNibble (b : Byte) : Byte := b &&& 0x0F#8

/-- A count written into a one-byte field. -/
def countByte (n : Nat) : Byte := BitVec.ofNat 8 n

end Sys2Proof.Machine
end

