-- ==== Sys2Proof/Machine/Checksum.lean ====
section
/-! DEFINITION. The checksum (40_checksum.md): `CHECKSUM` as a function (R130 to R134) and its accumulator form (R136). -/

namespace Sys2Proof.Machine

/-- The bytes `CHECKSUM(buf)` sums: the STX case (R131), the ACK case (R132), or none (R133, R134). -/
def checksumRange (buf : List Byte) : Option (List Byte) :=
  if 2 ≤ buf.length ∧ byteAt buf 0 = 0x41#8 then some (slice buf 1 ((byteAt buf 1).toNat + 2))
  else if 3 ≤ buf.length ∧ byteAt buf 0 = 0x06#8 then some (slice buf 2 ((byteAt buf 2).toNat + 3))
  else none

/-- `CHECKSUM(buf)` (R130). -/
def checksum (buf : List Byte) : Byte :=
  match checksumRange buf with
  | some r => sum8 r
  | none => 0x00#8

/-- The accumulator run over a list of bytes, from 0x00 (R136). -/
def accumulate (l : List Byte) : Byte := l.foldl (fun acc b => acc + b) 0x00#8

/-- What `CSUM` holds after a step has computed the checksum of `buf`; a list of R133 or R134 does not run the
accumulator, and `CSUM` keeps what it held (R136). -/
def csumAfter (before : Byte) (buf : List Byte) : Byte :=
  match checksumRange buf with
  | some r => accumulate r
  | none => before

end Sys2Proof.Machine
end

