-- ==== Sys2Proof/Machine/Encoder.lean ====
section
/-! DEFINITION. The telegram encoder (41_encoder.md): the request builders R150 to R153, the length check R154 and the
control sequences R155, R156. Pure functions of their operands (R157). -/

namespace Sys2Proof.Machine

/-- A request without its checksum byte: STX, PayloadLen, MsgType 0x00, FunctionCode, AddrHi, AddrLo, BlockLen, data
(R93). -/
def reqBody (fc : Byte) (addr : Addr) (bl : Byte) (data : List Byte) : List Byte :=
  [0x41#8, countByte (5 + data.length), 0x00#8, fc, hi8 addr, lo8 addr, bl] ++ data

/-- `ENC_REQ(fc, addr, bl, data)` (R150). -/
def encReq (fc : Byte) (addr : Addr) (bl : Byte) (data : List Byte) : List Byte :=
  reqBody fc addr bl data ++ [checksum (reqBody fc addr bl data)]

/-- `ENC_READ(addr, length)` (R151). -/
def encRead (addr : Addr) (length : Byte) : List Byte := encReq 0x01#8 addr length []

/-- `ENC_WRITE(addr, data)` (R152). -/
def encWrite (addr : Addr) (data : List Byte) : List Byte := encReq 0x02#8 addr (countByte data.length) data

/-- `ENC_RPC(addr, procedure_id, args)` (R153). -/
def encRpc (addr : Addr) (pid : Byte) (args : List Byte) : List Byte :=
  encReq 0x07#8 addr (countByte (1 + args.length)) (pid :: args)

/-- `ENC_EOT()` (R155). -/
def encEot : List Byte := [0x04#8]

/-- `ENC_START()` (R156). -/
def encStart : List Byte := [0x16#8, 0x00#8, 0x00#8]

/-- `LENGTH_OK(WRITE, n)` (R154): PayloadLen fits, and `n` is at most `MAX_WRITE_DATA` (R8). -/
def writeLengthOk (n : Nat) : Bool := decide (5 + n ≤ config.maxPayloadLen ∧ n ≤ config.maxWriteData)

/-- `LENGTH_OK(RPC, n)` (R154): PayloadLen fits, and `n` is at most `MAX_RPC_ARGS` (R8). -/
def rpcLengthOk (n : Nat) : Bool := decide (6 + n ≤ config.maxPayloadLen ∧ n ≤ config.maxRpcArgs)

end Sys2Proof.Machine
end

