-- ==== Sys2Proof/Machine/State.lean ====
section
/-! DEFINITION. The state: every register, flag and internal state of 10_state.md (R20 to R43), the record of transport
operations (R71 to R73), and the pending moves of the agents outside the engine (R67). -/

namespace Sys2Proof.Machine

/-- The session state (R29). -/
inductive Session where
  | uninitialized | handshaking | ready | faulted
  deriving DecidableEq, Repr

/-- The control state `CTL`, the pseudocode's `pc` (R33). -/
inductive Ctl where
  | idle | hsEnq | hsStart | xch
  deriving DecidableEq, Repr

/-- The response decoder's state `DEC` (R34). -/
inductive Dec where
  | awaitAck | awaitStx | awaitBody | done
  deriving DecidableEq, Repr

/-- Which exchange is in progress, `OP` (R36). -/
inductive Op where
  | none | read | write | rpc
  deriving DecidableEq, Repr

/-- The completion codes of R271. The reserved codes 0x0C to 0xFF are never raised and have no constructor. -/
inductive Code where
  | none | ok | remoteError | nack | framingError | checksumError | timeout | notReady | invalidLength
  | hsFailEnq | hsFailStart | illegalCommand
  deriving DecidableEq, Repr

/-- The outcomes the response decoder yields (R180). -/
inductive DecOutcome where
  | success (p : List Byte)
  | deviceError (p : List Byte)
  | checksumError (p : List Byte)
  | nack
  | framingError
  deriving DecidableEq, Repr

/-- A transport operation, as a Lean model records it (R71, R72, R73). -/
inductive Event where
  /-- `TxWrite(L)`. -/
  | tx (bytes : List Byte)
  /-- `RxRead()` returned this list. -/
  | rx (bytes : List Byte)
  /-- `RxClear()`. -/
  | clr
  deriving DecidableEq, Repr

/-- What moves next outside or beside the engine's own rules: one entry is one atomic step of R67. -/
inductive Move where
  /-- The host's `MemWrite(off, 1, v)` (R60). -/
  | write (off : Off) (v : Byte)
  /-- The host's `MemRead(off, 1)` (R60). -/
  | read (off : Off)
  /-- The host's WAIT: read `STATUS` until `DONE` is 1 (R110). -/
  | wait
  /-- The poll timer fires, and the transport returns these bytes to `RxRead` (R72, R239). -/
  | poll (chunk : List Byte)
  /-- The reset input (R300). -/
  | reset
  deriving DecidableEq, Repr

/-- The engine. -/
structure State where
  /-- `ADDR_HI` (R22). -/
  addrHi : Byte
  /-- `ADDR_LO` (R22). -/
  addrLo : Byte
  /-- `LEN` (R23). -/
  len : Byte
  /-- `PROC_ID` (R24). -/
  procId : Byte
  /-- `TXLEN` (R25). -/
  txlen : Byte
  /-- `TXDATA` at offsets 0x100 to 0x1FF and `RXDATA` at 0x200 to 0x2FF (R26, R32, R61): the cells written so far. -/
  mem : List Host.Cell
  /-- `CMD` (R27). -/
  cmd : Byte
  /-- `STATUS.DONE` (R28). -/
  done : Bool
  /-- `STATUS.OVR` (R28). -/
  ovr : Bool
  /-- `STATUS.SESSION` (R29). -/
  session : Session
  /-- `RESULT` (R30). -/
  result : Code
  /-- `RXLEN` (R31). -/
  rxlen : Byte
  /-- `CTL` (R33); `BUSY` is `CTL != IDLE` (R28). -/
  ctl : Ctl
  /-- `DEC` (R34). -/
  dec : Dec
  /-- `ATTEMPT` (R35). -/
  attempt : BitVec 9
  /-- `OP` (R36). -/
  op : Op
  /-- `LATCH_LEN` (R36). -/
  latchLen : Byte
  /-- `RXBUF` (R37), oldest byte first. -/
  rxbuf : List Byte
  /-- `CSUM` (R38). -/
  csum : Byte
  /-- The transport operations so far, oldest first (R71 to R73). Not engine state: reset keeps it. -/
  history : List Event
  /-- The moves still to come, next first (R67). The model's own; log entry 1. -/
  agenda : List Move
  /-- The bytes host reads returned, oldest first. The model's own; log entry 7. -/
  hostGot : List Byte
  /-- Engine steps taken, the index of the free draws. The model's own; log entry 3. -/
  tick : Nat
  /-- Reset events taken, the index of the free contents of `TXDATA`. The model's own; log entry 3. -/
  epoch : Nat
  deriving DecidableEq, Repr

/-- Reasons the machine stops. It has none: every failure is an ordinary completion (R270), no host access is an error
(R62) and no transport operation fails (R70). Nobody raises a fault. -/
inductive Fault where
  deriving DecidableEq, Repr

/-- Reasons an instruction has no meaning. -/
inductive Refusal where
  /-- Raised by an arm of `exec` for an instruction not modelled yet; safe. No arm of this model raises it. -/
  | notModelled (mnemonic : String)
  deriving DecidableEq, Repr

/-- The engine after reset (R43, R302), with nothing recorded and nothing pending. -/
def State.reset : State where
  addrHi := 0x00#8
  addrLo := 0x00#8
  len := 0x00#8
  procId := 0x00#8
  txlen := 0x00#8
  mem := []
  cmd := 0x00#8
  done := false
  ovr := false
  session := .uninitialized
  result := .none
  rxlen := 0x00#8
  ctl := .idle
  dec := .awaitAck
  attempt := 0
  op := .none
  latchLen := 0x00#8
  rxbuf := []
  csum := 0x00#8
  history := []
  agenda := []
  hostGot := []
  tick := 0
  epoch := 0

end Sys2Proof.Machine
end

