-- ==== Sys2Proof/Machine/Flags.lean ====
section
/-! DEFINITION. The flags `BUSY`, `DONE`, `OVR` (R39), the `STATUS` byte (R28), and the numbers of the named states and
codes (R29, R33, R34, R271). -/

namespace Sys2Proof.Machine

/-- `BUSY = (CTL != IDLE)` (R28). -/
def State.busy (s : State) : Bool := s.ctl != .idle

/-- The 2-bit encoding of `SESSION` (R29). -/
def sessionBits : Session → BitVec 2
  | .uninitialized => 0
  | .handshaking => 1
  | .ready => 2
  | .faulted => 3

/-- The 2-bit encoding of `CTL` (R33). -/
def ctlBits : Ctl → BitVec 2
  | .idle => 0
  | .hsEnq => 1
  | .hsStart => 2
  | .xch => 3

/-- The 2-bit encoding of `DEC` (R34). -/
def decBits : Dec → BitVec 2
  | .awaitAck => 0
  | .awaitStx => 1
  | .awaitBody => 2
  | .done => 3

/-- The numbers of the completion codes (R271). -/
def codeByte : Code → Byte
  | .none => 0x00#8
  | .ok => 0x01#8
  | .remoteError => 0x02#8
  | .nack => 0x03#8
  | .framingError => 0x04#8
  | .checksumError => 0x05#8
  | .timeout => 0x06#8
  | .notReady => 0x07#8
  | .invalidLength => 0x08#8
  | .hsFailEnq => 0x09#8
  | .hsFailStart => 0x0A#8
  | .illegalCommand => 0x0B#8

/-- The `STATUS` byte (R28): bits 7:6 zero, 5:4 `SESSION`, 3 zero, 2 `OVR`, 1 `DONE`, 0 `BUSY`. -/
def State.status (s : State) : Byte :=
  (0#2 ++ sessionBits s.session ++ 0#1 ++ BitVec.ofBool s.ovr ++ BitVec.ofBool s.done ++ BitVec.ofBool s.busy :
    BitVec (2 + 2 + 1 + 1 + 1 + 1))

/-- A host write of `v` to `STATUS`: a 1 in bit 1 clears `DONE`, a 1 in bit 2 clears `OVR`, nothing else (R28). -/
def State.clearFlags (s : State) (v : Byte) : State :=
  { s with done := s.done && !v.getLsbD 1, ovr := s.ovr && !v.getLsbD 2 }

/-- A command written while `BUSY` is 1 sets `OVR` (R220). -/
def State.setOvr (s : State) : State := { s with ovr := true }

end Sys2Proof.Machine
end

