-- ==== Sys2Proof/Machine/Memory.lean ====
section
/-! DEFINITION. The two byte arrays of the host register space as one list of cells, offsets strictly rising. A cell that
nothing has written is not listed; it holds no written value, and its readers draw a free one (log entries 4, 5, 6). -/

namespace Sys2Proof.Machine

/-- The byte listed at an address, if any. -/
def Memory.get : List Host.Cell → Nat → Option Byte
  | [], _ => none
  | (b, v) :: m, a => if a = b then some v else Memory.get m a

/-- The list with the byte at one address set. -/
def Memory.set : List Host.Cell → Nat → Byte → List Host.Cell
  | [], a, v => [(a, v)]
  | (b, w) :: m, a, v =>
    if a < b then (a, v) :: (b, w) :: m
    else if a = b then (a, v) :: m
    else (b, w) :: Memory.set m a v

/-- Successive bytes set from an address up. -/
def Memory.setList : List Host.Cell → Nat → List Byte → List Host.Cell
  | m, _, [] => m
  | m, a, v :: vs => Memory.setList (Memory.set m a v) (a + 1) vs

/-- The canonical form: addresses strictly rising. No entry can equal what an unlisted address reads as, since an
unlisted cell has no value of its own. -/
def Memory.wf : List Host.Cell → Bool
  | [] => true
  | [_] => true
  | (a, _) :: (b, w) :: m => decide (a < b) && Memory.wf ((b, w) :: m)

end Sys2Proof.Machine
end

