-- ==== Sys2Proof/Machine/Operands.lean ====
section
/-! DEFINITION. The operands a command reads from the parameter registers when it is accepted (R106, R108). -/

namespace Sys2Proof.Machine

/-- `TXDATA[0]`'s offset (R61). -/
def txBase : Nat := 0x100
/-- `RXDATA[0]`'s offset (R61). -/
def rxBase : Nat := 0x200

/-- `addr = x[ADDR_HI] * 256 + x[ADDR_LO]` (R22, R108). -/
def State.addr (s : State) : Addr := joinAddr s.addrHi s.addrLo

/-- `x[TXDATA[i]]`: the byte written last since reset, else the byte drawn at reset (R26, I1). -/
def State.txdata (s : State) (i : Nat) : Byte := (Memory.get s.mem (txBase + i)).getD (Config.txdataAtReset s.epoch i)

/-- `[x[TXDATA[0]], ..., x[TXDATA[n-1]]]` with `n = x[TXLEN]` (R108). -/
def State.txBytes (s : State) : List Byte := (List.range s.txlen.toNat).map s.txdata

/-- `x[RXDATA[i]]` as a host reads it: the posted byte below `RXLEN`, any value from `RXLEN` on (R32, I2). -/
def State.rxdata (s : State) (i : Nat) : Byte :=
  if i < s.rxlen.toNat then (Memory.get s.mem (rxBase + i)).getD (Config.rxdataAny s.tick i)
  else Config.rxdataAny s.tick i

end Sys2Proof.Machine
end

