-- ==== Sys2Proof/Machine/Ops.lean ====
section
/-! DEFINITION. The shared operations: the transport port (R70 to R73), the host registers (R60 to R64), the completion
action that every command ends in (R276), the dispatch preamble (R221), the start of an exchange, and reset (R300). -/

namespace Sys2Proof.Machine

/-! ### The transport port -/

/-- `TxWrite(L)` (R71). -/
def State.txWrite (s : State) (l : List Byte) : State := { s with history := s.history ++ [.tx l] }

/-- `RxClear()` (R73). -/
def State.rxClear (s : State) : State := { s with history := s.history ++ [.clr] }

/-- `RxRead()` returning `chunk` (R72). -/
def State.rxRead (s : State) (chunk : List Byte) : State := { s with history := s.history ++ [.rx chunk] }

/-- The accumulator computes the checksum of `l` (R136). -/
def State.runCsum (s : State) (l : List Byte) : State := { s with csum := csumAfter s.csum l }

/-- A request telegram is built, with the accumulator run over it without its last byte, and handed to the transport in
one `TxWrite` (R71, R136, R150). -/
def State.sendRequest (s : State) (t : List Byte) : State := (s.runCsum t.dropLast).txWrite t

/-! ### The completion action -/

/-- `raise Outcome(code, p)` (R276): the engine's only trap entry. -/
def State.raiseOutcome (s : State) (code : Code) (p : List Byte) : State :=
  { s with
    result := code
    rxlen := countByte p.length
    mem := Memory.setList s.mem rxBase p
    done := true
    ctl := .idle
    dec := .done
    rxbuf := []
    attempt := 0 }

/-- `COMPLETE_XCH(out)` (R235): a READ's payload is cut to the latched length. -/
def State.completeXch (s : State) (out : DecOutcome) : State :=
  match out with
  | .success p => if s.op = .read then s.raiseOutcome .ok (p.take s.latchLen.toNat) else s.raiseOutcome .ok p
  | .deviceError p => s.raiseOutcome .remoteError p
  | .checksumError p => s.raiseOutcome .checksumError p
  | .nack => s.raiseOutcome .nack []
  | .framingError => s.raiseOutcome .framingError []

/-! ### Dispatch -/

/-- `x[SESSION] <- v`. -/
def State.setSession (s : State) (v : Session) : State := { s with session := v }

/-- `x[CMD] <- v` and the dispatch preamble (R220, R221). -/
def State.preamble (s : State) (v : Byte) : State :=
  { s with cmd := v, done := false, result := .none, rxlen := 0x00#8 }

/-- The dispatch of a command byte (R220): dropped with `OVR` while `BUSY` is 1, else the preamble and the command. -/
def State.dispatch (s : State) (v : Byte) (command : State → State) : State :=
  if s.busy then s.setOvr else command (s.preamble v)

/-- A stage of the handshake begins: `ATTEMPT <- 0; pc <- c` (R224, R225). -/
def State.startStage (s : State) (c : Ctl) : State := { s with attempt := 0, ctl := c }

/-- An exchange begins: `OP <- o; RXBUF <- []; DEC <- AWAIT_ACK; ATTEMPT <- 0; pc <- XCH` (R228, R229, R230). -/
def State.startExchange (s : State) (o : Op) : State :=
  { s with op := o, rxbuf := [], dec := .awaitAck, attempt := 0, ctl := .xch }

/-- `LATCH_LEN <- length` (R228). -/
def State.latch (s : State) (v : Byte) : State := { s with latchLen := v }

/-! ### The host registers -/

/-- The host offsets of R61 that are single registers. -/
def offCmd : Off := 0x000#10
def offStatus : Off := 0x001#10
def offResult : Off := 0x002#10
def offAddrHi : Off := 0x003#10
def offAddrLo : Off := 0x004#10
def offLen : Off := 0x005#10
def offProcId : Off := 0x006#10
def offTxlen : Off := 0x007#10
def offRxlen : Off := 0x008#10

/-- The offset is one of the `TXDATA` window (R61). -/
def isTxdata (off : Off) : Bool := decide (txBase ≤ off.toNat ∧ off.toNat < txBase + 256)

/-- The offset is one of the `RXDATA` window (R61). -/
def isRxdata (off : Off) : Bool := decide (rxBase ≤ off.toNat ∧ off.toNat < rxBase + 256)

/-- `MemRead(off, 1)` (R61, R62, R63). -/
def State.hostRead (s : State) (off : Off) : Byte :=
  if off = offCmd then s.cmd
  else if off = offStatus then s.status
  else if off = offResult then codeByte s.result
  else if off = offAddrHi then s.addrHi
  else if off = offAddrLo then s.addrLo
  else if off = offLen then s.len
  else if off = offProcId then s.procId
  else if off = offTxlen then s.txlen
  else if off = offRxlen then s.rxlen
  else if isTxdata off = true then s.txdata (off.toNat - txBase)
  else if isRxdata off = true then s.rxdata (off.toNat - rxBase)
  else 0x00#8

/-- `MemWrite(off, 1, v)` to any register but `CMD` (R62, R64); a write to `CMD` is a command (R220). -/
def State.hostWrite (s : State) (off : Off) (v : Byte) : State :=
  if off = offStatus then s.clearFlags v
  else if off = offAddrHi then { s with addrHi := v }
  else if off = offAddrLo then { s with addrLo := v }
  else if off = offLen then { s with len := v }
  else if off = offProcId then { s with procId := v }
  else if off = offTxlen then { s with txlen := v }
  else if isTxdata off = true then { s with mem := Memory.set s.mem off.toNat v }
  else s

/-- The host's read step: the byte goes to the host, and nothing of the engine changes (R63). -/
def State.readStep (s : State) (off : Off) : State := { s with hostGot := s.hostGot ++ [s.hostRead off] }

/-! ### Moves and reset -/

/-- The pending moves become `l`. -/
def State.setAgenda (s : State) (l : List Move) : State := { s with agenda := l }

/-- One more engine step: the free draws are fresh from here on. -/
def State.tickUp (s : State) : State := { s with tick := s.tick + 1 }

/-- The reset event (R300): every state of R43 takes its reset value; no transport operation, no completion. What lies
outside the engine, the record of transport operations among it, stays (R301). -/
def State.resetEvent (s : State) : State :=
  { State.reset with
    history := s.history
    agenda := s.agenda
    hostGot := s.hostGot
    tick := s.tick + 1
    epoch := s.epoch + 1 }

end Sys2Proof.Machine
end

