-- ==== Sys2Proof/Machine/Transmit.lean ====
section
/-! DEFINITION. The TX rows: a telegram or control sequence is built and handed to the transport (R71, R150 to R156).
The commands and the ENQ stage send through the same operations. -/

namespace Sys2Proof.Machine

/-- The read request is built and sent (R151). -/
def sendRead (addr : Addr) (length : Byte) (s : State) : State := s.sendRequest (encRead addr length)

/-- The write request is built and sent (R152). -/
def sendWrite (addr : Addr) (data : List Byte) (s : State) : State := s.sendRequest (encWrite addr data)

/-- The remote-procedure-call request is built and sent (R153). -/
def sendRpc (addr : Addr) (pid : Byte) (args : List Byte) (s : State) : State := s.sendRequest (encRpc addr pid args)

/-- EOT is sent (R155). -/
def sendEot (s : State) : State := s.txWrite encEot

/-- START-VS2 is sent (R156). -/
def sendStart (s : State) : State := s.txWrite encStart

/-- TX_READ_REQ (R151). -/
def execTxReadReq (addr : Addr) (length : Byte) (s : State) : Host.Outcome State Fault Refusal :=
  .next (sendRead addr length s)

/-- TX_WRITE_REQ (R152); data too long for PayloadLen is refused and nothing is built (R154). -/
def execTxWriteReq (addr : Addr) (data : List Byte) (s : State) : Host.Outcome State Fault Refusal :=
  .next (if writeLengthOk data.length = true then sendWrite addr data s else s)

/-- TX_RPC_REQ (R153); arguments too long for PayloadLen are refused and nothing is built (R154). -/
def execTxRpcReq (addr : Addr) (pid : Byte) (args : List Byte) (s : State) : Host.Outcome State Fault Refusal :=
  .next (if rpcLengthOk args.length = true then sendRpc addr pid args s else s)

/-- TX_EOT (R155). -/
def execTxEot (s : State) : Host.Outcome State Fault Refusal := .next (sendEot s)

/-- TX_START_VS2 (R156). -/
def execTxStartVs2 (s : State) : Host.Outcome State Fault Refusal := .next (sendStart s)

end Sys2Proof.Machine
end

