-- ==== Sys2Proof/Machine/Command.lean ====
section
/-! DEFINITION. The host commands (43_session.md): READ, WRITE, RPC, HANDSHAKE, CLOSE and the reserved opcodes, each
through the dispatch of R220. -/

namespace Sys2Proof.Machine

/-- READ once dispatched (R228, R231). -/
def State.acceptRead (s : State) : State :=
  if s.session = .ready then
    ((sendRead s.addr s.len s.rxClear).startExchange .read).latch s.len
  else s.raiseOutcome .notReady []

/-- WRITE once dispatched (R229, R231, R232). -/
def State.acceptWrite (s : State) : State :=
  if s.session = .ready then
    if writeLengthOk s.txlen.toNat = true then (sendWrite s.addr s.txBytes s.rxClear).startExchange .write
    else s.rxClear.raiseOutcome .invalidLength []
  else s.raiseOutcome .notReady []

/-- RPC once dispatched (R230, R231, R232). -/
def State.acceptRpc (s : State) : State :=
  if s.session = .ready then
    if rpcLengthOk s.txlen.toNat = true then (sendRpc s.addr s.procId s.txBytes s.rxClear).startExchange .rpc
    else s.rxClear.raiseOutcome .invalidLength []
  else s.raiseOutcome .notReady []

/-- HANDSHAKE once dispatched (R224). -/
def State.acceptHandshake (s : State) : State := ((sendEot s.rxClear).setSession .handshaking).startStage .hsEnq

/-- CLOSE once dispatched (R238). -/
def State.acceptClose (s : State) : State := ((sendEot s).setSession .uninitialized).raiseOutcome .ok []

/-- A reserved opcode once dispatched (R222). -/
def State.acceptReserved (s : State) : State := s.raiseOutcome .illegalCommand []

/-- READ (R228). -/
def execRead (s : State) : Host.Outcome State Fault Refusal := .next (s.dispatch 0x01#8 State.acceptRead)

/-- WRITE (R229). -/
def execWrite (s : State) : Host.Outcome State Fault Refusal := .next (s.dispatch 0x02#8 State.acceptWrite)

/-- RPC (R230). -/
def execRpc (s : State) : Host.Outcome State Fault Refusal := .next (s.dispatch 0x07#8 State.acceptRpc)

/-- HANDSHAKE (R224). -/
def execHandshake (s : State) : Host.Outcome State Fault Refusal := .next (s.dispatch 0x10#8 State.acceptHandshake)

/-- CLOSE (R238). -/
def execClose (s : State) : Host.Outcome State Fault Refusal := .next (s.dispatch 0x11#8 State.acceptClose)

/-- A reserved opcode (R107, R222). -/
def execReserved (opcode : Byte) (s : State) : Host.Outcome State Fault Refusal :=
  .next (s.dispatch opcode State.acceptReserved)

end Sys2Proof.Machine
end

