-- ==== Sys2Proof/Syntax.lean ====
section
/-! DEFINITION. The instructions: one constructor per row of spec/opcode_table.json. Commands take their operands from
the parameter registers (R106), so they carry none; wire rows carry the fields their layout gives (R91, R94, R95). -/

namespace Sys2Proof

/-- A complete response telegram (R95) after its ACK, STX and PayloadLen bytes: the `dlen` bytes at indices 3 to
`dlen + 2`, and the check byte at index `dlen + 3`. PayloadLen is the length of `body`. -/
structure Response where
  /-- The bytes MsgType, FunctionCode, MsgId/AddrHi, AddrLo, BlockLen and data, as many of them as `dlen` covers. -/
  body : List Byte
  /-- The byte at index `dlen + 3`. -/
  check : Byte
  deriving DecidableEq, Repr

/-- The rows of spec/opcode_table.json. -/
inductive Instr where
  /-- READ, `CMD` = 0x01 (R228). -/
  | read
  /-- WRITE, `CMD` = 0x02 (R229). -/
  | write
  /-- RPC, `CMD` = 0x07 (R230). -/
  | rpc
  /-- HANDSHAKE, `CMD` = 0x10 (R224). -/
  | handshake
  /-- CLOSE, `CMD` = 0x11 (R238). -/
  | close
  /-- RESERVED, any other `CMD` byte (R107, R222). -/
  | reserved (opcode : Byte)
  /-- TX_READ_REQ: the read request telegram, sent (R151). -/
  | txReadReq (addr : Addr) (length : Byte)
  /-- TX_WRITE_REQ: the write request telegram, sent (R152). -/
  | txWriteReq (addr : Addr) (data : List Byte)
  /-- TX_RPC_REQ: the remote-procedure-call telegram, sent (R153). -/
  | txRpcReq (addr : Addr) (procId : Byte) (args : List Byte)
  /-- TX_EOT: the control byte EOT, sent (R155). -/
  | txEot
  /-- TX_START_VS2: the control sequence START-VS2, sent (R156). -/
  | txStartVs2
  /-- RX_ENQ: a byte 0x05 in an ENQ-stage poll (R225). -/
  | rxEnq
  /-- RX_HS_ACK: a byte 0x06 in a START-stage poll (R226). -/
  | rxHsAck
  /-- RX_NACK: 0x15 at index 0 of the exchange buffer (R185). -/
  | rxNack
  /-- RX_FRAMING: 0x06, then a byte that is not STX, with a third byte held (R189). -/
  | rxFraming (second third : Byte)
  /-- RX_RESPONSE: a complete response body (R191). -/
  | rxResponse (r : Response)
  /-- RX_RESPONSE_CHECKSUM_ERROR: a complete response whose check byte differs from its checksum (R192). -/
  | rxResponseChecksumError (r : Response)
  /-- RX_RESPONSE_DEVICE_ERROR: a matching checksum, and the error nibble (R193). -/
  | rxResponseDeviceError (r : Response)
  /-- RX_RESPONSE_SUCCESS: a matching checksum, and no error nibble (R194). -/
  | rxResponseSuccess (r : Response)
  deriving DecidableEq, Repr

end Sys2Proof
end

