-- ==== Sys2Proof/Machine/Response.lean ====
section
/-! DEFINITION. The fields of a complete response telegram (R95, R96, R100): its bytes, its payload, its checksum test
and its error nibble. -/

namespace Sys2Proof.Machine

/-- The telegram: VS2-ACK, STX, PayloadLen, the body, the check byte (R95); `dlen + 4` bytes. -/
def responseBytes (r : Response) : List Byte :=
  [0x06#8, 0x41#8, countByte r.body.length] ++ r.body ++ [r.check]

/-- `p = slice(buf, 8, dlen + 3)` (R195). -/
def responsePayload (r : Response) : List Byte := slice (responseBytes r) 8 (r.body.length + 3)

/-- `CHECKSUM(buf) = buf[dlen + 3]` (R192). -/
def responseChecks (r : Response) : Bool := checksum (responseBytes r) == r.check

/-- The low nibble of the byte at `ERR_INDEX` is `ERR_NIBBLE` (R100, R193). -/
def responseIsError (r : Response) : Bool :=
  lowNibble (byteAt (responseBytes r) config.errIndex) == config.errNibble

end Sys2Proof.Machine
end

