-- ==== Sys2Proof/Machine/Receive.lean ====
section
/-! DEFINITION. The RX rows: what the engine does on a wire sequence it recognises (R185, R189, R191 to R194, R225, R226).
A row is recognised only in its own control and decoder state (R104); elsewhere the bytes are data, and the row changes
nothing (log entry 11). -/

namespace Sys2Proof.Machine

/-- The ENQ stage receives ENQ: clear, send START-VS2, the START stage begins (R225). -/
def State.onEnq (s : State) : State := (sendStart s.rxClear).startStage .hsStart

/-- The START stage receives VS2-ACK: the session is ready (R226). -/
def State.onHsAck (s : State) : State := (s.setSession .ready).raiseOutcome .ok []

/-- R191: the buffer is cut to the telegram, `DEC <- DONE`, and the accumulator computes its checksum (R136, R192). -/
def State.truncate (s : State) (r : Response) : State :=
  { s with rxbuf := responseBytes r, dec := .done, csum := csumAfter s.csum (responseBytes r) }

/-- R192: the checksum error outcome, with its payload. -/
def State.onChecksumError (s : State) (r : Response) : State := s.completeXch (.checksumError (responsePayload r))

/-- R193: the device error outcome, with its payload. -/
def State.onDeviceError (s : State) (r : Response) : State := s.completeXch (.deviceError (responsePayload r))

/-- R194: the success outcome, with its payload. -/
def State.onSuccess (s : State) (r : Response) : State := s.completeXch (.success (responsePayload r))

/-- R191 to R194: truncate, then the first of checksum error, device error and success that applies. -/
def State.onResponse (s : State) (r : Response) : State :=
  if responseChecks r = false then (s.truncate r).onChecksumError r
  else if responseIsError r = true then (s.truncate r).onDeviceError r
  else (s.truncate r).onSuccess r

/-- The exchange decoder is in state `d` (R104, R196). -/
def State.inXch (s : State) (d : Dec) : Bool := s.ctl == .xch && s.dec == d

/-- RX_ENQ (R225). -/
def execRxEnq (s : State) : Host.Outcome State Fault Refusal :=
  .next (if s.ctl = .hsEnq then s.onEnq else s)

/-- RX_HS_ACK (R226). -/
def execRxHsAck (s : State) : Host.Outcome State Fault Refusal :=
  .next (if s.ctl = .hsStart then s.onHsAck else s)

/-- RX_NACK (R185). -/
def execRxNack (s : State) : Host.Outcome State Fault Refusal :=
  .next (if s.inXch .awaitAck = true then s.completeXch .nack else s)

/-- RX_FRAMING (R189); the two bytes after the ACK decide nothing more. -/
def execRxFraming (_second _third : Byte) (s : State) : Host.Outcome State Fault Refusal :=
  .next (if s.inXch .awaitStx = true then s.completeXch .framingError else s)

/-- RX_RESPONSE (R191), which goes on to R192. -/
def execRxResponse (r : Response) (s : State) : Host.Outcome State Fault Refusal :=
  .next (if s.inXch .awaitBody = true then s.onResponse r else s)

/-- RX_RESPONSE_CHECKSUM_ERROR (R192). -/
def execRxResponseChecksumError (r : Response) (s : State) : Host.Outcome State Fault Refusal :=
  .next (if s.inXch .done = true then s.onChecksumError r else s)

/-- RX_RESPONSE_DEVICE_ERROR (R193). -/
def execRxResponseDeviceError (r : Response) (s : State) : Host.Outcome State Fault Refusal :=
  .next (if s.inXch .done = true then s.onDeviceError r else s)

/-- RX_RESPONSE_SUCCESS (R194). -/
def execRxResponseSuccess (r : Response) (s : State) : Host.Outcome State Fault Refusal :=
  .next (if s.inXch .done = true then s.onSuccess r else s)

end Sys2Proof.Machine
end

