-- ==== Sys2Proof/Machine/Dispatch.lean ====
section
/-! DEFINITION. `exec`: one arm per constructor of `Instr`, each one direct call of its meaning. -/

namespace Sys2Proof.Machine

def exec (i : Instr) (s : State) : Host.Outcome State Fault Refusal :=
  match i with
  | .read => Sys2Proof.Machine.execRead s
  | .write => Sys2Proof.Machine.execWrite s
  | .rpc => Sys2Proof.Machine.execRpc s
  | .handshake => Sys2Proof.Machine.execHandshake s
  | .close => Sys2Proof.Machine.execClose s
  | .reserved opcode => Sys2Proof.Machine.execReserved opcode s
  | .txReadReq addr length => Sys2Proof.Machine.execTxReadReq addr length s
  | .txWriteReq addr data => Sys2Proof.Machine.execTxWriteReq addr data s
  | .txRpcReq addr pid args => Sys2Proof.Machine.execTxRpcReq addr pid args s
  | .txEot => Sys2Proof.Machine.execTxEot s
  | .txStartVs2 => Sys2Proof.Machine.execTxStartVs2 s
  | .rxEnq => Sys2Proof.Machine.execRxEnq s
  | .rxHsAck => Sys2Proof.Machine.execRxHsAck s
  | .rxNack => Sys2Proof.Machine.execRxNack s
  | .rxFraming second third => Sys2Proof.Machine.execRxFraming second third s
  | .rxResponse r => Sys2Proof.Machine.execRxResponse r s
  | .rxResponseChecksumError r => Sys2Proof.Machine.execRxResponseChecksumError r s
  | .rxResponseDeviceError r => Sys2Proof.Machine.execRxResponseDeviceError r s
  | .rxResponseSuccess r => Sys2Proof.Machine.execRxResponseSuccess r s

end Sys2Proof.Machine
end

