-- ==== Sys2Proof/WellFormed.lean ====
section
/-! DEFINITION. Which instructions have an encoding: a reserved opcode is none of the five commands (R107), a request's
length fits its PayloadLen byte (R154), a response's PayloadLen is one byte, and each RX row meets its own test. -/

namespace Sys2Proof

open Sys2Proof.Machine

/-- The five command opcodes of R106. -/
def isCommandOpcode (v : Byte) : Bool := v == 0x01#8 || v == 0x02#8 || v == 0x07#8 || v == 0x10#8 || v == 0x11#8

/-- PayloadLen is one byte (R92). -/
def Response.wf (r : Response) : Bool := decide (r.body.length ≤ config.maxPayloadLen)

/-- The check each row of the table makes on its operands. -/
def Instr.wf : Instr → Bool
  | .read => true
  | .write => true
  | .rpc => true
  | .handshake => true
  | .close => true
  | .reserved v => !isCommandOpcode v
  | .txReadReq _ _ => true
  | .txWriteReq _ data => writeLengthOk data.length
  | .txRpcReq _ _ args => rpcLengthOk args.length
  | .txEot => true
  | .txStartVs2 => true
  | .rxEnq => true
  | .rxHsAck => true
  | .rxNack => true
  | .rxFraming second _ => second != 0x41#8
  | .rxResponse r => r.wf
  | .rxResponseChecksumError r => r.wf && !responseChecks r
  | .rxResponseDeviceError r => r.wf && responseChecks r && responseIsError r
  | .rxResponseSuccess r => r.wf && responseChecks r && !responseIsError r

end Sys2Proof
end

