-- ==== Sys2Proof/Decode.lean ====
section
/-! DEFINITION. The decoder and the encoder. The table's rows live in several spaces that share byte values (a 0x06 is a
reserved command, a handshake ACK and the first byte of a response), so decoding takes the PORT the bytes come from.
Total on any bytes; what is no instruction there is rejected by name. -/

namespace Sys2Proof

open Sys2Proof.Machine

/-- Where bytes are read as an instruction. -/
inductive Port where
  /-- A byte the host writes to `CMD` (R106). -/
  | command
  /-- A telegram or control sequence the engine sends (R91, R93). -/
  | transmit
  /-- The bytes of one poll of the ENQ stage (R225). -/
  | enqStage
  /-- The bytes of one poll of the START stage (R226). -/
  | startStage
  /-- The exchange buffer while `DEC` is `AWAIT_ACK` (R183 to R186). -/
  | awaitAck
  /-- The exchange buffer while `DEC` is `AWAIT_STX` (R187 to R189). -/
  | awaitStx
  /-- The exchange buffer while `DEC` is `AWAIT_BODY` (R190, R191). -/
  | awaitBody
  /-- The truncated complete response, classified (R192 to R194). -/
  | classified
  deriving DecidableEq, Repr

/-- Why bytes are no instruction at a port. -/
inductive DecodeError where
  /-- Nothing to decode (R183). -/
  | empty
  /-- More bytes are needed (R187, R190). -/
  | incomplete
  /-- No recognised byte in a handshake poll (R225, R226), or a noise byte at index 0 (R186). -/
  | notRecognised
  /-- The byte moves the decoder on and is no outcome (R184, R188). -/
  | advances
  /-- A sent sequence that starts with none of STX, EOT and START-VS2 (R91). -/
  | badStart
  /-- A PayloadLen below what the telegram's fields take (R92). -/
  | badPayloadLen
  /-- A request whose MsgType is not 0x00 (R98). -/
  | badMsgType
  /-- A FunctionCode that is none of 0x01, 0x02, 0x07 (R99). -/
  | badFunctionCode
  /-- A BlockLen that disagrees with the data (R102). -/
  | badBlockLen
  /-- A request whose last byte is not its checksum (R150). -/
  | badChecksum
  deriving DecidableEq, Repr

/-- The command opcodes (R106); every other byte is reserved (R107). -/
def decodeCommand (v : Byte) : Instr :=
  if v = 0x01#8 then .read
  else if v = 0x02#8 then .write
  else if v = 0x07#8 then .rpc
  else if v = 0x10#8 then .handshake
  else if v = 0x11#8 then .close
  else .reserved v

/-- The FunctionCode cases of a whole request `t` with PayloadLen `p`, whose checksum matches (R94). -/
def decodeRequestFields (t : List Byte) (p : Nat) : Except DecodeError Instr :=
  let addr := joinAddr (byteAt t 4) (byteAt t 5)
  let bl := byteAt t 6
  if byteAt t 3 = 0x01#8 then
    if p = 5 then .ok (.txReadReq addr bl) else .error .badPayloadLen
  else if byteAt t 3 = 0x02#8 then
    if bl.toNat + 5 = p then .ok (.txWriteReq addr (slice t 7 (p + 2))) else .error .badBlockLen
  else if byteAt t 3 = 0x07#8 then
    if p < 6 then .error .badPayloadLen
    else if bl.toNat + 5 = p then .ok (.txRpcReq addr (byteAt t 7) (slice t 8 (p + 2))) else .error .badBlockLen
  else .error .badFunctionCode

/-- A whole request `t` of `p + 3` bytes (R93). -/
def decodeRequest (t : List Byte) (p : Nat) : Except DecodeError Instr :=
  if p < 5 then .error .badPayloadLen
  else if byteAt t 2 ≠ 0x00#8 then .error .badMsgType
  else if checksum t ≠ byteAt t (p + 2) then .error .badChecksum
  else decodeRequestFields t p

/-- A sequence the engine sends, and the bytes after it (R91, R93, R103). -/
def decodeTransmit (bs : List Byte) : Except DecodeError (Instr × List Byte) :=
  if bs = [] then .error .empty
  else if byteAt bs 0 = 0x04#8 then .ok (.txEot, bs.drop 1)
  else if byteAt bs 0 = 0x16#8 then
    if bs.take 3 = encStart then .ok (.txStartVs2, bs.drop 3) else .error .badStart
  else if byteAt bs 0 = 0x41#8 then
    let n := (byteAt bs 1).toNat + 3
    if bs.length < 2 ∨ bs.length < n then .error .incomplete
    else match decodeRequest (bs.take n) (byteAt bs 1).toNat with
      | .ok i => .ok (i, bs.drop n)
      | .error e => .error e
  else .error .badStart

/-- The complete response at the front of a buffer, and the bytes after it, which are noise (R190, R191). -/
def splitResponse (buf : List Byte) : Option (Response × List Byte) :=
  let dlen := (byteAt buf 2).toNat
  if buf.length < 3 ∨ buf.length < dlen + 4 then none
  else some (⟨slice buf 3 (dlen + 3), byteAt buf (dlen + 3)⟩, buf.drop (dlen + 4))

/-- Which of the three outcome rows a complete response is (R192, R193, R194). -/
def classifyResponse (r : Response) : Instr :=
  if responseChecks r = false then .rxResponseChecksumError r
  else if responseIsError r = true then .rxResponseDeviceError r
  else .rxResponseSuccess r

/-- The instruction a port reads from bytes, and the bytes after it. -/
def decode (p : Port) (bs : List Byte) : Except DecodeError (Instr × List Byte) :=
  match p with
  | .command =>
    match bs with
    | [] => .error .empty
    | v :: rest => .ok (decodeCommand v, rest)
  | .transmit => decodeTransmit bs
  | .enqStage => if 0x05#8 ∈ bs then .ok (.rxEnq, []) else .error .notRecognised
  | .startStage => if 0x06#8 ∈ bs then .ok (.rxHsAck, []) else .error .notRecognised
  | .awaitAck =>
    if bs = [] then .error .empty
    else if byteAt bs 0 = 0x06#8 then .error .advances
    else if byteAt bs 0 = 0x15#8 then .ok (.rxNack, bs.drop 1)
    else .error .notRecognised
  | .awaitStx =>
    if bs.length ≤ 2 then .error .incomplete
    else if byteAt bs 1 = 0x41#8 then .error .advances
    else .ok (.rxFraming (byteAt bs 1) (byteAt bs 2), bs.drop 3)
  | .awaitBody =>
    match splitResponse bs with
    | none => .error .incomplete
    | some (r, rest) => .ok (.rxResponse r, rest)
  | .classified =>
    if byteAt bs 0 ≠ 0x06#8 ∨ byteAt bs 1 ≠ 0x41#8 then .error .badStart
    else match splitResponse bs with
      | none => .error .incomplete
      | some (r, rest) => .ok (classifyResponse r, rest)

/-- The port an instruction is read at. -/
def Instr.port : Instr → Port
  | .read => .command
  | .write => .command
  | .rpc => .command
  | .handshake => .command
  | .close => .command
  | .reserved _ => .command
  | .txReadReq _ _ => .transmit
  | .txWriteReq _ _ => .transmit
  | .txRpcReq _ _ _ => .transmit
  | .txEot => .transmit
  | .txStartVs2 => .transmit
  | .rxEnq => .enqStage
  | .rxHsAck => .startStage
  | .rxNack => .awaitAck
  | .rxFraming _ _ => .awaitStx
  | .rxResponse _ => .awaitBody
  | .rxResponseChecksumError _ => .classified
  | .rxResponseDeviceError _ => .classified
  | .rxResponseSuccess _ => .classified

/-- The bytes of an instruction (R91, R94, R95, R106). -/
def encode : Instr → List Byte
  | .read => [0x01#8]
  | .write => [0x02#8]
  | .rpc => [0x07#8]
  | .handshake => [0x10#8]
  | .close => [0x11#8]
  | .reserved v => [v]
  | .txReadReq addr len => encRead addr len
  | .txWriteReq addr data => encWrite addr data
  | .txRpcReq addr pid args => encRpc addr pid args
  | .txEot => encEot
  | .txStartVs2 => encStart
  | .rxEnq => [0x05#8]
  | .rxHsAck => [0x06#8]
  | .rxNack => [0x15#8]
  | .rxFraming second third => [0x06#8, second, third]
  | .rxResponse r => responseBytes r
  | .rxResponseChecksumError r => responseBytes r
  | .rxResponseDeviceError r => responseBytes r
  | .rxResponseSuccess r => responseBytes r

/-- The bytes of a table word: its `nbits / 8` bytes, bit 0 the least significant bit of the FIRST byte. -/
def wordBytes : Nat → Nat → List Byte
  | 0, _ => []
  | n + 1, w => BitVec.ofNat 8 w :: wordBytes n (w / 256)

/-- The length the leading bytes call for: PayloadLen + 3 of a request, PayloadLen + 4 of a response (R103), else the
three bytes of START-VS2 or of a framing error. -/
def calledLength (bs : List Byte) : Nat :=
  if byteAt bs 0 = 0x41#8 then (byteAt bs 1).toNat + 3
  else if byteAt bs 0 = 0x06#8 ∧ byteAt bs 1 = 0x41#8 then (byteAt bs 2).toNat + 4
  else 3

/-- A table word as bytes, and zero bytes above `nbits` as far as the instruction reaches. -/
def tableBytes (nbits w : Nat) : List Byte :=
  let own := wordBytes ((nbits + 7) / 8) w
  own ++ List.replicate (calledLength own - own.length) 0x00#8

/-- A one-byte table word: a command opcode, else the control byte of the wire rows, else a reserved command. The four
control bytes also are reserved command bytes; a table word names no port (log entry 13). -/
def decodeTableByte (v : Byte) : Instr :=
  if isCommandOpcode v = true then decodeCommand v
  else if v = 0x04#8 then .txEot
  else if v = 0x05#8 then .rxEnq
  else if v = 0x06#8 then .rxHsAck
  else if v = 0x15#8 then .rxNack
  else decodeCommand v

/-- The port a longer table word is read at: a sent sequence, or the exchange buffer at the state its first two
bytes lead to. -/
def tablePort (bs : List Byte) : Port :=
  if byteAt bs 0 = 0x41#8 ∨ byteAt bs 0 = 0x16#8 ∨ byteAt bs 0 = 0x04#8 then .transmit
  else if byteAt bs 0 = 0x06#8 then (if byteAt bs 1 = 0x41#8 then .awaitBody else .awaitStx)
  else .awaitAck

/-- The instruction the decoder reads from a word of spec/opcode_table.json. -/
def decodeTableWord (nbits w : Nat) : Option Instr :=
  if nbits ≤ 8 then some (decodeTableByte (BitVec.ofNat 8 w))
  else match decode (tablePort (tableBytes nbits w)) (tableBytes nbits w) with
    | .ok (i, _) => some i
    | .error _ => none

end Sys2Proof
end

