-- ==== Sys2Proof/Machine/Fetch.lean ====
section
/-! DEFINITION. What a step fetches. The engine has no program counter (R33): a step takes the next move of the agenda, and
an instruction comes either from a `CMD` write or from the bytes of a poll. Every other move is a whole step by itself. -/

namespace Sys2Proof.Machine

/-- The decoder's moves that yield no outcome: AWAIT_ACK to AWAIT_STX on a leading VS2-ACK (R184), AWAIT_STX to AWAIT_BODY
on an STX at index 1 of more than 2 bytes (R188). Several in one poll (R182). -/
def advanceStx (buf : List Byte) : Dec :=
  if 2 < buf.length ∧ byteAt buf 1 = 0x41#8 then .awaitBody else .awaitStx

/-- The decoder state after those moves (R182, R196). -/
def advanceDec (d : Dec) (buf : List Byte) : Dec :=
  match d with
  | .awaitAck => if buf ≠ [] ∧ byteAt buf 0 = 0x06#8 then advanceStx buf else .awaitAck
  | .awaitStx => advanceStx buf
  | .awaitBody => .awaitBody
  | .done => .done

/-- `APPEND(RXBUF, chunk)` (R181). -/
def appendRx (buf chunk : List Byte) : List Byte := (buf ++ chunk).take config.rxbufCap

/-- The start of a poll: one `RxRead`, one more attempt (R225, R226, R233). -/
def State.pollRead (s : State) (chunk : List Byte) : State :=
  { s.rxRead chunk with attempt := s.attempt + 1, tick := s.tick + 1 }

/-- In an exchange, the poll's bytes go to `RXBUF` and move the decoder on (R181, R182, R233). -/
def State.feed (s : State) (chunk : List Byte) : State :=
  { s with rxbuf := appendRx s.rxbuf chunk, dec := advanceDec s.dec (appendRx s.rxbuf chunk) }

/-- A poll up to the point where its bytes are classified. -/
def State.polled (s : State) (chunk : List Byte) : State :=
  if s.ctl = .xch then (s.pollRead chunk).feed chunk else s.pollRead chunk

/-- Where the engine reads its next wire instruction; none once `DEC` is `DONE` (R198) or while it is idle. -/
def State.wirePort (s : State) : Option Port :=
  match s.ctl with
  | .idle => none
  | .hsEnq => some .enqStage
  | .hsStart => some .startStage
  | .xch =>
    match s.dec with
    | .awaitAck => some .awaitAck
    | .awaitStx => some .awaitStx
    | .awaitBody => some .awaitBody
    | .done => none

/-- The bytes read there: the poll's own in a handshake stage (R225), the buffer in an exchange (R233). -/
def State.wireBytes (s : State) (chunk : List Byte) : List Byte := if s.ctl = .xch then s.rxbuf else chunk

/-- The wire instruction a poll that returned `chunk` recognises, if any. -/
def State.recognise (s : State) (chunk : List Byte) : Option Instr :=
  match s.wirePort with
  | none => none
  | some p =>
    match decode p (s.wireBytes chunk) with
    | .ok (i, _) => some i
    | .error _ => none

/-- A poll that recognised nothing: at its attempt bound the wait ends, with a stage failure (R225, R226) or a timeout
(R234); below it the engine keeps waiting. -/
def State.pollMiss (s : State) : State :=
  match s.ctl with
  | .idle => s
  | .hsEnq =>
    if s.attempt = BitVec.ofNat 9 config.hsPolls then (s.setSession .faulted).raiseOutcome .hsFailEnq [] else s
  | .hsStart =>
    if s.attempt = BitVec.ofNat 9 config.hsPolls then (s.setSession .faulted).raiseOutcome .hsFailStart [] else s
  | .xch => if s.attempt = BitVec.ofNat 9 config.xchPolls then s.raiseOutcome .timeout [] else s

/-- The POLL step (R239): enabled only while `CTL != IDLE`; a poll entry that meets an idle engine is passed over. -/
def State.fetchPoll (s : State) (chunk : List Byte) : Option Instr × State :=
  if s.ctl = .idle then (none, s)
  else
    match (s.polled chunk).recognise chunk with
    | some i => (some i, s.polled chunk)
    | none => (none, (s.polled chunk).pollMiss)

/-- A host write: to `CMD` it is a command (R220), elsewhere a register write (R64). -/
def State.fetchWrite (s : State) (off : Off) (v : Byte) : Option Instr × State :=
  if off = offCmd then (some (decodeCommand v), s.tickUp) else (none, s.hostWrite off v)

/-- What comes after a WAIT read that saw `DONE` = 0: a scheduled poll or reset goes first, and the loop goes on behind
it; with none scheduled next, a busy engine polls on a free draw (R110, R239). -/
def waitQueue (busy : Bool) (tick : Nat) (rest : List Move) : List Move :=
  match rest with
  | .poll c :: more => .poll c :: .wait :: more
  | .reset :: more => .reset :: .wait :: more
  | _ => if busy then .poll (Config.rxDraw tick) :: .wait :: rest else .wait :: rest

/-- One read of the WAIT loop (R110). -/
def State.waitStep (s : State) (rest : List Move) : State :=
  (s.readStep offStatus).setAgenda (if s.done then rest else waitQueue s.busy s.tick rest)

/-- What the next step does: an instruction to run and the state to run it in, or none and the step's next state. With
nothing pending, a busy engine polls on a free draw, and an idle one makes no step (R288). -/
def State.fetch (s : State) : Option Instr × State :=
  match s.agenda with
  | [] => s.fetchPoll (Config.rxDraw s.tick)
  | .write off v :: rest => (s.setAgenda rest).fetchWrite off v
  | .read off :: rest => (none, (s.setAgenda rest).readStep off)
  | .wait :: rest => (none, s.waitStep rest)
  | .poll chunk :: rest => (s.setAgenda rest).fetchPoll chunk
  | .reset :: rest => (none, (s.setAgenda rest).resetEvent)

/-! ### Placing an instruction to be fetched next -/

/-- The agenda with one move put in front. -/
def State.push (s : State) (m : Move) : State := s.setAgenda (m :: s.agenda)

/-- The engine put into an exchange that has received nothing yet. -/
def State.inFreshXch (s : State) : State :=
  { s with ctl := .xch, session := .ready, dec := .awaitAck, rxbuf := [], attempt := 0 }

/-- The engine put into a handshake stage. -/
def State.inStage (s : State) (c : Ctl) : State := { s with ctl := c, session := .handshaking, attempt := 0 }

/-- The engine put idle in a ready session, with the parameters of a request and its command pending. -/
def State.requesting (s : State) (addr : Addr) (l pid : Byte) (data : List Byte) (v : Byte) : State :=
  { s with
    ctl := .idle
    session := .ready
    addrHi := hi8 addr
    addrLo := lo8 addr
    len := l
    procId := pid
    txlen := countByte data.length
    mem := Memory.setList s.mem txBase data
    agenda := .write offCmd v :: s.agenda }

/-- `s` with instruction `i` placed where the next step fetches it: a command as a pending `CMD` write; an RX row as the
bytes of a pending poll, in the wait that recognises it; a TX row as the pending command or poll whose step sends it
(log entry 14). -/
def State.place (s : State) (i : Instr) : State :=
  match i with
  | .read => s.push (.write offCmd 0x01#8)
  | .write => s.push (.write offCmd 0x02#8)
  | .rpc => s.push (.write offCmd 0x07#8)
  | .handshake => s.push (.write offCmd 0x10#8)
  | .close => s.push (.write offCmd 0x11#8)
  | .reserved v => s.push (.write offCmd v)
  | .txReadReq addr l => s.requesting addr l s.procId [] 0x01#8
  | .txWriteReq addr data => s.requesting addr s.len s.procId data 0x02#8
  | .txRpcReq addr pid args => s.requesting addr s.len pid args 0x07#8
  | .txEot => s.push (.write offCmd 0x11#8)
  | .txStartVs2 => (s.inStage .hsEnq).push (.poll [0x05#8])
  | .rxEnq => (s.inStage .hsEnq).push (.poll (encode i))
  | .rxHsAck => (s.inStage .hsStart).push (.poll (encode i))
  | .rxNack => s.inFreshXch.push (.poll (encode i))
  | .rxFraming _ _ => s.inFreshXch.push (.poll (encode i))
  | .rxResponse _ => s.inFreshXch.push (.poll (encode i))
  | .rxResponseChecksumError _ => s.inFreshXch.push (.poll (encode i))
  | .rxResponseDeviceError _ => s.inFreshXch.push (.poll (encode i))
  | .rxResponseSuccess _ => s.inFreshXch.push (.poll (encode i))

/-- A table word placed to be fetched next; a word the decoder refuses goes to `CMD`, its first byte a command. -/
def State.placeWord (s : State) (nbits w : Nat) : State :=
  match decodeTableWord nbits w with
  | some i => s.place i
  | none => s.push (.write offCmd (BitVec.ofNat 8 w))

end Sys2Proof.Machine
end

