-- ==== Sys2Proof/Machine/HostLine.lean ====
section
/-! DEFINITION. The host program lines of R109 and the pseudo-instructions of R110, and the register accesses they expand
into. -/

namespace Sys2Proof.Machine

/-- A line of a host program (R109, R110). -/
inductive HostLine where
  | handshake
  | read (a : Addr) (l : Byte)
  | write (a : Addr) (data : List Byte)
  | rpc (a : Addr) (p : Byte) (args : List Byte)
  | close
  | wait
  | ackDone
  deriving DecidableEq, Repr

/-- The offset of `TXDATA[i]` (R61) for `i` below 256; a larger index is taken mod 1024. DESIGN CHOICE, log entry 16. -/
def txOff (i : Nat) : Off := BitVec.ofNat 10 (txBase + i)

/-- `MemWrite(0x100 + i, 1, di)` for each byte, from index `i` up (R109). -/
def txWrites : Nat → List Byte → List Move
  | _, [] => []
  | i, d :: ds => .write (txOff i) d :: txWrites (i + 1) ds

/-- The address writes of an exchange line (R109). -/
def addrWrites (a : Addr) : List Move := [.write offAddrHi (hi8 a), .write offAddrLo (lo8 a)]

/-- The expansion of a host line (R109, R110). R109 gives a WRITE or RPC line of more than 255 bytes no meaning, as the
count does not fit `TXLEN`. DESIGN CHOICE (unsafe), log entry 16: such a line expands too, its count taken mod 256 and its
offsets mod 1024; no statement is about one. -/
def HostLine.expand : HostLine → List Move
  | .handshake => [.write offCmd 0x10#8]
  | .read a l => addrWrites a ++ [.write offLen l, .write offCmd 0x01#8]
  | .write a data => addrWrites a ++ txWrites 0 data ++ [.write offTxlen (countByte data.length), .write offCmd 0x02#8]
  | .rpc a p args =>
    addrWrites a ++ [.write offProcId p] ++ txWrites 0 args ++
      [.write offTxlen (countByte args.length), .write offCmd 0x07#8]
  | .close => [.write offCmd 0x11#8]
  | .wait => [.wait]
  | .ackDone => [.write offStatus 0x02#8]

end Sys2Proof.Machine
end

