-- ==== Sys2Proof/Safety.lean ====
section
/-! DEFINITION. What claims about the engine are stated in: the invariants of R42, the response decoder as R196 writes it,
the observable events, and runs of several steps. -/

namespace Sys2Proof.Machine

/-! ### Invariants -/

/-- A wait is a handshake stage (R42). -/
def Ctl.isStage (c : Ctl) : Bool := c == .hsEnq || c == .hsStart

/-- The invariants R42 lists, of the registers and the internal state. -/
structure State.Inv (s : State) : Prop where
  /-- `BUSY = 1` if and only if `CTL != IDLE`, read off the `STATUS` byte. -/
  busyBit : s.status.getLsbD 0 = true ↔ s.ctl ≠ .idle
  /-- A handshake stage only while, and only then, `SESSION` is `HANDSHAKING`. -/
  staged : s.ctl.isStage = true ↔ s.session = .handshaking
  /-- An exchange only in a ready session. -/
  exchanging : s.ctl = .xch → s.session = .ready
  /-- `RXBUF` is empty outside an exchange. -/
  bufferEmpty : s.ctl ≠ .xch → s.rxbuf = []
  /-- `RXBUF` keeps its capacity. -/
  bufferBound : s.rxbuf.length ≤ config.rxbufCap
  /-- At most 299 polls of an exchange are behind. -/
  exchangePolls : s.ctl = .xch → s.attempt.toNat < config.xchPolls
  /-- At most 29 polls of a stage are behind. -/
  stagePolls : s.ctl.isStage = true → s.attempt.toNat < config.hsPolls
  /-- While a command waits, no result shows. -/
  noResult : s.ctl ≠ .idle → s.result = .none ∧ s.rxlen = 0

/-- What the decoder's state says of the buffer while an exchange waits: the bytes R184 and R188 required. -/
structure State.DecInv (s : State) : Prop where
  /-- No exchange waits with the decoder finished. -/
  notDone : s.ctl = .xch → s.dec ≠ .done
  /-- Waiting for the ACK, the buffer holds no ACK at its front. -/
  ackAhead : s.ctl = .xch → s.dec = .awaitAck → s.rxbuf = [] ∨ (byteAt s.rxbuf 0 ≠ 0x06#8 ∧ byteAt s.rxbuf 0 ≠ 0x15#8)
  /-- Waiting for the STX, at most the ACK and one byte more are held. -/
  stxAhead : s.ctl = .xch → s.dec = .awaitStx → 0 < s.rxbuf.length ∧ s.rxbuf.length ≤ 2 ∧ byteAt s.rxbuf 0 = 0x06#8
  /-- Waiting for the body, ACK, STX and PayloadLen are held and the body is incomplete. -/
  bodyAhead : s.ctl = .xch → s.dec = .awaitBody →
    2 < s.rxbuf.length ∧ byteAt s.rxbuf 0 = 0x06#8 ∧ byteAt s.rxbuf 1 = 0x41#8 ∧
      s.rxbuf.length < (byteAt s.rxbuf 2).toNat + 4

/-! ### The response decoder as R196 writes it -/

/-- The AWAIT_BODY case of `DECODE` (R190 to R194). -/
def refBody (buf : List Byte) : Dec × List Byte × Option DecOutcome :=
  let dlen := (byteAt buf 2).toNat
  if buf.length < dlen + 4 then (.awaitBody, buf, none)
  else
    let cut := buf.take (dlen + 4)
    let p := slice cut 8 (dlen + 3)
    if checksum cut ≠ byteAt cut (dlen + 3) then (.done, cut, some (.checksumError p))
    else if lowNibble (byteAt cut config.errIndex) = config.errNibble then (.done, cut, some (.deviceError p))
    else (.done, cut, some (.success p))

/-- The AWAIT_STX case of `DECODE` (R187 to R189). -/
def refStx (buf : List Byte) : Dec × List Byte × Option DecOutcome :=
  if buf.length ≤ 2 then (.awaitStx, buf, none)
  else if byteAt buf 1 = 0x41#8 then refBody buf
  else (.done, buf, some .framingError)

/-- The AWAIT_ACK case of `DECODE` (R183 to R186). -/
def refAck (buf : List Byte) : Dec × List Byte × Option DecOutcome :=
  if buf = [] then (.awaitAck, buf, none)
  else if byteAt buf 0 = 0x06#8 then refStx buf
  else if byteAt buf 0 = 0x15#8 then (.done, buf, some .nack)
  else (.awaitAck, buf, none)

/-- `DECODE(DEC, RXBUF)` (R196): each `continue` of its loop is the next case. -/
def refDecode (d : Dec) (buf : List Byte) : Dec × List Byte × Option DecOutcome :=
  match d with
  | .awaitAck => refAck buf
  | .awaitStx => refStx buf
  | .awaitBody => refBody buf
  | .done => (.done, buf, none)

/-- The outcome of a whole exchange on successive poll chunks, with a buffer of capacity `cap` (R181, R182, R199). -/
def refOutcome (cap : Nat) : Dec → List Byte → List (List Byte) → Option DecOutcome
  | _, _, [] => none
  | d, buf, c :: cs =>
    match refDecode d ((buf ++ c).take cap) with
    | (_, _, some out) => some out
    | (d', buf', none) => refOutcome cap d' buf' cs

/-! ### Events and runs -/

/-- The telegrams and control sequences among transport events. -/
def sent : List Event → List (List Byte)
  | [] => []
  | .tx l :: es => l :: sent es
  | .rx _ :: es => sent es
  | .clr :: es => sent es

/-- What an outcome posts: its code and its payload, a READ's success cut to the latched length (R235). -/
def refPost (op : Op) (latchLen : Byte) : DecOutcome → Code × List Byte
  | .success p => (.ok, if op = .read then p.take latchLen.toNat else p)
  | .deviceError p => (.remoteError, p)
  | .checksumError p => (.checksumError, p)
  | .nack => (.nack, [])
  | .framingError => (.framingError, [])

/-- The outcome of a complete response: the first of checksum error, device error and success that applies
(R192 to R194). -/
def responseOutcome (r : Response) : DecOutcome :=
  if responseChecks r = false then .checksumError (responsePayload r)
  else if responseIsError r = true then .deviceError (responsePayload r)
  else .success (responsePayload r)

/-- The bytes an instruction posts to `RXDATA` where its state recognises it: a response row its payload, a READ's success
cut to the latched length (R235, R276); every other row none. -/
def State.posts (s : State) : Instr → List Byte
  | .read => []
  | .write => []
  | .rpc => []
  | .handshake => []
  | .close => []
  | .reserved _ => []
  | .txReadReq _ _ => []
  | .txWriteReq _ _ => []
  | .txRpcReq _ _ _ => []
  | .txEot => []
  | .txStartVs2 => []
  | .rxEnq => []
  | .rxHsAck => []
  | .rxNack => []
  | .rxFraming _ _ => []
  | .rxResponse r => (refPost s.op s.latchLen (responseOutcome r)).2
  | .rxResponseChecksumError r => responsePayload r
  | .rxResponseDeviceError r => responsePayload r
  | .rxResponseSuccess r => (refPost s.op s.latchLen (.success (responsePayload r))).2

/-- Polls returning the given chunks, as agenda entries. -/
def pollMoves (cs : List (List Byte)) : List Move := cs.map Move.poll

/-- The move is a host write to `STATUS` that clears `OVR`, or a reset (R39). -/
def Move.clearsOvr : Move → Bool
  | .write off v => off == offStatus && v.getLsbD 2
  | .read _ => false
  | .wait => false
  | .poll _ => false
  | .reset => true

/-- The engine after the moves `ms`, one step each; the agenda names them first, and `rest` after them. -/
def State.after (s : State) (ms rest : List Move) : Host.Outcome State Fault Refusal :=
  Host.Core.run Sys2Proof.core ms.length (s.setAgenda (ms ++ rest))

/-- The host offsets that hold a command's inputs (R21). -/
def isParam (off : Off) : Bool :=
  off == offAddrHi || off == offAddrLo || off == offLen || off == offProcId || off == offTxlen || isTxdata off

/-- The host offsets that ignore writes (R61, R62). -/
def isIgnored (off : Off) : Bool :=
  off == offResult || off == offRxlen || isRxdata off || decide (0x009 ≤ off.toNat ∧ off.toNat ≤ 0x0FF) ||
    decide (0x300 ≤ off.toNat)

end Sys2Proof.Machine
end

