-- ==== Sys2Proof/Certificates/Slice0/Obligations.lean ====
section
/-! DEFINITION. The statements for the provers, in the order of the spec's files: checksum, encoder, decoding, the step,
the commands, the wire rows, the polls, the registers, and the rules of the whole machine.

The fields `agenda`, `hostGot`, `history`, `tick` and `epoch` are the model's own record of what lies outside the engine
(log entries 1, 3, 7, 8): a clause about one of them says how the model keeps it, and no rule of the spec says more. -/

open Sys2Proof Sys2Proof.Machine

/-! ### The checksum -/

/-- R131: the STX case sums the PayloadLen byte and the PayloadLen bytes after it, and not STX; in a request that is
every byte after STX, and the checksum stands at index PayloadLen + 2. -/
def Obligations.ChecksumStxCase : Prop :=
  (∀ buf : List Byte, 2 ≤ buf.length → byteAt buf 0 = 0x41#8 →
    checksum buf = sum8 (slice buf 1 ((byteAt buf 1).toNat + 2))) ∧
  (∀ (p : Byte) (body tail : List Byte), body.length = p.toNat →
    checksum (0x41#8 :: p :: (body ++ tail)) = sum8 (p :: body)) ∧
  (∀ (fc bl : Byte) (addr : Addr) (data : List Byte), 5 + data.length ≤ 255 →
    byteAt (encReq fc addr bl data) ((byteAt (encReq fc addr bl data) 1).toNat + 2) =
      sum8 ([countByte (5 + data.length), 0x00#8, fc, hi8 addr, lo8 addr, bl] ++ data)) ∧
  checksum [0x41#8, 0x05#8, 0x00#8, 0x01#8, 0x00#8, 0xF8#8, 0x08#8] = 0x06#8 ∧
  checksum [0x41#8, 0x06#8, 0x00#8, 0x02#8, 0x23#8, 0x23#8, 0x01#8, 0x01#8] = 0x50#8

/-- R132: the ACK case sums the byte at index 2 and the `dlen` bytes after it, which is what the STX case sums once the
ACK is removed. -/
def Obligations.ChecksumAckCase : Prop :=
  (∀ buf : List Byte, 3 ≤ buf.length → byteAt buf 0 = 0x06#8 →
    checksum buf = sum8 (slice buf 2 ((byteAt buf 2).toNat + 3))) ∧
  (∀ (x d : Byte) (body tail : List Byte), body.length = d.toNat →
    checksum (0x06#8 :: x :: d :: (body ++ tail)) = sum8 (d :: body)) ∧
  (∀ (d : Byte) (tail : List Byte), checksum (0x06#8 :: 0x41#8 :: d :: tail) = checksum (0x41#8 :: d :: tail)) ∧
  checksum [0x06#8, 0x41#8, 0x05#8, 0x01#8, 0x02#8, 0x23#8, 0x23#8, 0x01#8] = 0x4F#8

/-- R133: any other first byte, and the empty list, give 0; the encoder's lists start with 0x41 and the decoder's with
0x06, so the engine never computes one. -/
def Obligations.ChecksumElseZero : Prop :=
  (∀ buf : List Byte, (buf = [] ∨ (byteAt buf 0 ≠ 0x41#8 ∧ byteAt buf 0 ≠ 0x06#8)) → checksum buf = 0x00#8) ∧
  (∀ (fc bl : Byte) (addr : Addr) (data : List Byte), byteAt (reqBody fc addr bl data) 0 = 0x41#8) ∧
  (∀ r : Response, byteAt (responseBytes r) 0 = 0x06#8) ∧
  checksum [0x15#8, 0x41#8, 0x05#8] = 0x00#8 ∧ checksum [] = 0x00#8

/-- R134: a list too short for its length byte gives 0, and a range past the end sums the bytes that exist. What the engine
builds or receives whole is neither: its range lies inside it. -/
def Obligations.ChecksumShortLists : Prop :=
  checksum [0x41#8] = 0x00#8 ∧ checksum [0x06#8] = 0x00#8 ∧ (∀ x : Byte, checksum [0x06#8, x] = 0x00#8) ∧
  (∀ (p : Byte) (body : List Byte), body.length ≤ p.toNat → checksum (0x41#8 :: p :: body) = sum8 (p :: body)) ∧
  (∀ (x d : Byte) (body : List Byte), body.length ≤ d.toNat → checksum (0x06#8 :: x :: d :: body) = sum8 (d :: body)) ∧
  (∀ (fc bl : Byte) (addr : Addr) (data : List Byte), 5 + data.length ≤ 255 →
    2 ≤ (reqBody fc addr bl data).length ∧
      (byteAt (reqBody fc addr bl data) 1).toNat + 2 ≤ (reqBody fc addr bl data).length) ∧
  (∀ r : Response, r.body.length ≤ 255 → 3 ≤ (responseBytes r).length ∧
    (byteAt (responseBytes r) 2).toNat + 3 ≤ (responseBytes r).length) ∧
  checksum [0x06#8, 0x41#8] = 0x00#8 ∧ checksum [0x41#8, 0x05#8, 0x00#8, 0x01#8] = 0x06#8

/-- R135: the sum is taken modulo 256, its order does not matter, and 256 copies of a byte add 0. -/
def Obligations.ChecksumArithmetic : Prop :=
  (∀ l : List Byte, (sum8 l).toNat = (l.map BitVec.toNat).sum % 256) ∧
  (∀ l m : List Byte, l.Perm m → sum8 l = sum8 m) ∧
  (∀ (l : List Byte) (b : Byte), sum8 (l ++ List.replicate 256 b) = sum8 l)

/-- R136: the accumulator, from 0x00 and one byte at a time, gives the checksum; for a list of R133 or R134 it is not run
and the result is 0x00. -/
def Obligations.AccumulatorGivesChecksum : Prop :=
  accumulate [] = 0x00#8 ∧
  (∀ (l : List Byte) (b : Byte), accumulate (l ++ [b]) = accumulate l + b) ∧
  (∀ (before : Byte) (buf r : List Byte), checksumRange buf = some r →
    accumulate r = checksum buf ∧ csumAfter before buf = checksum buf) ∧
  (∀ (before : Byte) (buf : List Byte), checksumRange buf = none →
    checksum buf = 0x00#8 ∧ csumAfter before buf = before)

/-- R137: bytes after the end of the summed range do not change the checksum. -/
def Obligations.ChecksumIgnoresTrailingBytes : Prop :=
  (∀ t x : List Byte,
    ((2 ≤ t.length ∧ byteAt t 0 = 0x41#8 ∧ (byteAt t 1).toNat + 2 ≤ t.length) ∨
      (3 ≤ t.length ∧ byteAt t 0 = 0x06#8 ∧ (byteAt t 2).toNat + 3 ≤ t.length)) →
    checksum (t ++ x) = checksum t) ∧
  checksum [0x41#8, 0x05#8, 0x00#8, 0x01#8, 0x00#8, 0xF8#8, 0x08#8, 0x06#8, 0xAA#8, 0xBB#8] = 0x06#8

/-! ### The encoder -/

/-- R94: the bytes, PayloadLen and length of each request kind. -/
def Obligations.RequestLayouts : Prop :=
  (∀ (a : Addr) (l : Byte),
    encRead a l = [0x41#8, 0x05#8, 0x00#8, 0x01#8, hi8 a, lo8 a, l, sum8 [0x05#8, 0x00#8, 0x01#8, hi8 a, lo8 a, l]] ∧
    (encRead a l).length = 8) ∧
  (∀ (a : Addr) (d : List Byte), d.length ≤ 250 →
    encWrite a d = [0x41#8, countByte (5 + d.length), 0x00#8, 0x02#8, hi8 a, lo8 a, countByte d.length] ++ d ++
      [sum8 ([countByte (5 + d.length), 0x00#8, 0x02#8, hi8 a, lo8 a, countByte d.length] ++ d)] ∧
    (encWrite a d).length = 8 + d.length) ∧
  (∀ (a : Addr) (pid : Byte) (m : List Byte), m.length ≤ 249 →
    encRpc a pid m = [0x41#8, countByte (6 + m.length), 0x00#8, 0x07#8, hi8 a, lo8 a, countByte (1 + m.length), pid] ++ m ++
      [sum8 ([countByte (6 + m.length), 0x00#8, 0x07#8, hi8 a, lo8 a, countByte (1 + m.length), pid] ++ m)] ∧
    (encRpc a pid m).length = 9 + m.length)

/-- R158: every request a builder returns ends in its own checksum and is `t[1] + 3` bytes long. -/
def Obligations.RequestsEndInTheirChecksum : Prop :=
  (∀ (a : Addr) (l : Byte), checksum (encRead a l) = (encRead a l).getLastD 0 ∧
    (encRead a l).length = (byteAt (encRead a l) 1).toNat + 3) ∧
  (∀ (a : Addr) (d : List Byte), d.length ≤ 250 → checksum (encWrite a d) = (encWrite a d).getLastD 0 ∧
    (encWrite a d).length = (byteAt (encWrite a d) 1).toNat + 3) ∧
  (∀ (a : Addr) (pid : Byte) (m : List Byte), m.length ≤ 249 → checksum (encRpc a pid m) = (encRpc a pid m).getLastD 0 ∧
    (encRpc a pid m).length = (byteAt (encRpc a pid m) 1).toNat + 3)

/-! ### Decoding -/

/-- Every well-formed instruction is read back from its encoding at its port, whatever bytes follow; a handshake stage
keeps no bytes of its poll (R225). -/
def Obligations.DecodeOfEncode : Prop :=
  ∀ (i : Instr) (rest : List Byte), i.wf = true →
    decode i.port (encode i ++ rest) = .ok (i, if i.port = .enqStage ∨ i.port = .startStage then [] else rest)

/-- What a port decodes is well-formed and belongs to that port; at the ports that check every byte, the bytes are its
encoding and what follows. -/
def Obligations.DecodeIsSound : Prop :=
  ∀ (p : Port) (bs rest : List Byte) (i : Instr), decode p bs = .ok (i, rest) →
    i.wf = true ∧ i.port = p ∧
      (p = .command ∨ p = .transmit ∨ p = .awaitAck ∨ p = .classified → encode i ++ rest = bs)

/-- Words written out from the spec's encodings (R91, R94, R95, R106) decode to the instructions they stand for. -/
def Obligations.DecodeSampleWords : Prop :=
  decode .command [0x01#8] = .ok (.read, []) ∧
  decode .command [0x10#8] = .ok (.handshake, []) ∧
  decode .command [0x12#8] = .ok (.reserved 0x12#8, []) ∧
  decode .transmit [0x41#8, 0x05#8, 0x00#8, 0x01#8, 0x00#8, 0xF8#8, 0x08#8, 0x06#8] = .ok (.txReadReq 0x00F8 0x08#8, []) ∧
  decode .transmit [0x16#8, 0x00#8, 0x00#8] = .ok (.txStartVs2, []) ∧
  decode .startStage [0x00#8, 0x06#8] = .ok (.rxHsAck, []) ∧
  decode .awaitAck [0x15#8, 0x06#8, 0x41#8, 0x05#8] = .ok (.rxNack, [0x06#8, 0x41#8, 0x05#8]) ∧
  decode .awaitStx [0x06#8, 0x15#8, 0x00#8] = .ok (.rxFraming 0x15#8 0x00#8, []) ∧
  decode .awaitBody [0x06#8, 0x41#8, 0x01#8, 0x03#8, 0x04#8] = .ok (.rxResponse ⟨[0x03#8], 0x04#8⟩, []) ∧
  decode .classified [0x06#8, 0x41#8, 0x01#8, 0x03#8, 0x04#8] = .ok (.rxResponseDeviceError ⟨[0x03#8], 0x04#8⟩, [])

/-! ### The step -/

/-- A host write to `CMD` runs the command its byte decodes to. -/
def Obligations.StepRunsTheCommand : Prop :=
  ∀ (s : State) (v : Byte) (rest tail : List Byte) (moves : List Move) (i : Instr),
    s.agenda = .write offCmd v :: moves → decode .command (v :: tail) = .ok (i, rest) →
    step s = exec i { s with agenda := moves, tick := s.tick + 1 }

/-- A poll runs the wire instruction its bytes decode to, after the poll's read, its attempt and, in an exchange, the
appended buffer and the decoder's moves (R225, R226, R233). -/
def Obligations.StepRunsTheWireInstruction : Prop :=
  ∀ (s t : State) (chunk rest : List Byte) (moves : List Move) (p : Port) (i : Instr),
    s.ctl ≠ .idle → s.agenda = .poll chunk :: moves →
    t = (if s.ctl = .xch then
          { s with
            agenda := moves
            history := s.history ++ [.rx chunk]
            attempt := s.attempt + 1
            tick := s.tick + 1
            rxbuf := (s.rxbuf ++ chunk).take 259
            dec := advanceDec s.dec ((s.rxbuf ++ chunk).take 259) }
        else
          { s with
            agenda := moves
            history := s.history ++ [.rx chunk]
            attempt := s.attempt + 1
            tick := s.tick + 1 }) →
    t.wirePort = some p → decode p (if s.ctl = .xch then t.rxbuf else chunk) = .ok (i, rest) →
    step s = exec i t

/-- Every step answers a next state: no state stops the machine (R270). -/
def Obligations.EveryStepAnswers : Prop := ∀ s : State, ∃ t : State, step s = .next t

/-- R239: a poll is enabled only while the engine is not idle; idle with nothing pending the engine keeps its state
(R288); waiting with nothing pending it polls on a free draw, whatever that is. -/
def Obligations.PollsOnlyWhileWaiting : Prop :=
  (∀ (s : State) (chunk : List Byte) (moves : List Move), s.ctl = .idle → s.agenda = .poll chunk :: moves →
    step s = .next { s with agenda := moves }) ∧
  (∀ s : State, s.ctl = .idle → s.agenda = [] → step s = .next s) ∧
  (∀ s : State, s.ctl ≠ .idle → s.agenda = [] →
    step s = step { s with agenda := [.poll (Config.rxDraw s.tick)] })

/-! ### The commands -/

/-- R220, R304: any command byte written while a command is in progress only sets `OVR`. -/
def Obligations.CommandWhileBusyIsDropped : Prop :=
  ∀ (s : State) (v : Byte), s.ctl ≠ .idle → exec (decodeCommand v) s = .next { s with ovr := true }

/-- R224: HANDSHAKE, accepted in every session state. -/
def Obligations.HandshakeAccepted : Prop :=
  ∀ s : State, s.ctl = .idle →
    exec .handshake s = .next { s with
      cmd := 0x10#8
      done := false
      result := .none
      rxlen := 0
      history := s.history ++ [.clr, .tx [0x04#8]]
      session := .handshaking
      attempt := 0
      ctl := .hsEnq }

/-- R228: READ, with every length sent, or `NOT_READY` with no transport operation (R276 says what `raise` does). What the
checksum leaves in `CSUM` is not said here. -/
def Obligations.ReadAccepted : Prop :=
  ∀ s : State, s.ctl = .idle →
    (s.session ≠ .ready → exec .read s = .next
      (State.raiseOutcome { s with cmd := 0x01#8, done := false, result := .none, rxlen := 0 } .notReady [])) ∧
    (s.session = .ready → ∃ k : Byte, exec .read s = .next { s with
      cmd := 0x01#8
      done := false
      result := .none
      rxlen := 0
      history := s.history ++ [.clr, .tx (encRead (joinAddr s.addrHi s.addrLo) s.len)]
      csum := k
      op := .read
      latchLen := s.len
      rxbuf := []
      dec := .awaitAck
      attempt := 0
      ctl := .xch })

/-- R229: WRITE, or `NOT_READY`, or after the clear `INVALID_LENGTH` for more than 250 bytes. What the checksum leaves in
`CSUM` is not said here. -/
def Obligations.WriteAccepted : Prop :=
  ∀ s : State, s.ctl = .idle →
    (s.session ≠ .ready → exec .write s = .next
      (State.raiseOutcome { s with cmd := 0x02#8, done := false, result := .none, rxlen := 0 } .notReady [])) ∧
    (s.session = .ready → 250 < s.txlen.toNat → exec .write s = .next { s with
      cmd := 0x02#8
      done := true
      result := .invalidLength
      rxlen := 0
      history := s.history ++ [.clr]
      ctl := .idle
      dec := .done
      rxbuf := []
      attempt := 0 }) ∧
    (s.session = .ready → s.txlen.toNat ≤ 250 → ∃ k : Byte, exec .write s = .next { s with
      cmd := 0x02#8
      done := false
      result := .none
      rxlen := 0
      history := s.history ++
        [.clr, .tx (encWrite (joinAddr s.addrHi s.addrLo) ((List.range s.txlen.toNat).map s.txdata))]
      csum := k
      op := .write
      rxbuf := []
      dec := .awaitAck
      attempt := 0
      ctl := .xch })

/-- R230: RPC, or `NOT_READY`, or after the clear `INVALID_LENGTH` for more than 249 bytes. What the checksum leaves in
`CSUM` is not said here. -/
def Obligations.RpcAccepted : Prop :=
  ∀ s : State, s.ctl = .idle →
    (s.session ≠ .ready → exec .rpc s = .next
      (State.raiseOutcome { s with cmd := 0x07#8, done := false, result := .none, rxlen := 0 } .notReady [])) ∧
    (s.session = .ready → 249 < s.txlen.toNat → exec .rpc s = .next { s with
      cmd := 0x07#8
      done := true
      result := .invalidLength
      rxlen := 0
      history := s.history ++ [.clr]
      ctl := .idle
      dec := .done
      rxbuf := []
      attempt := 0 }) ∧
    (s.session = .ready → s.txlen.toNat ≤ 249 → ∃ k : Byte, exec .rpc s = .next { s with
      cmd := 0x07#8
      done := false
      result := .none
      rxlen := 0
      history := s.history ++
        [.clr, .tx (encRpc (joinAddr s.addrHi s.addrLo) s.procId ((List.range s.txlen.toNat).map s.txdata))]
      csum := k
      op := .rpc
      rxbuf := []
      dec := .awaitAck
      attempt := 0
      ctl := .xch })

/-- R222: a reserved opcode, 0x00 among them, completes at once with `ILLEGAL_COMMAND`, with no transport operation. -/
def Obligations.ReservedIsIllegal : Prop :=
  (∀ v : Byte, isCommandOpcode v = false → decodeCommand v = .reserved v) ∧
  (∀ (s : State) (v : Byte), s.ctl = .idle →
    exec (.reserved v) s = .next { s with
      cmd := v, done := true, result := .illegalCommand, rxlen := 0, ctl := .idle, dec := .done, rxbuf := [], attempt := 0 })

/-- R238: CLOSE, accepted in every session state. -/
def Obligations.CloseCompletes : Prop :=
  ∀ s : State, s.ctl = .idle →
    exec .close s = .next { s with
      cmd := 0x11#8
      done := true
      result := .ok
      rxlen := 0
      history := s.history ++ [.tx [0x04#8]]
      session := .uninitialized
      ctl := .idle
      dec := .done
      rxbuf := []
      attempt := 0 }

/-- R277: of several causes at a `CMD` write, the first of the order is the one acted on. -/
def Obligations.DispatchPriority : Prop :=
  ∀ (s : State) (v : Byte), ∃ t : State, exec (decodeCommand v) s = .next t ∧
    if s.ctl ≠ .idle then t = { s with ovr := true }
    else if isCommandOpcode v = false then t.result = .illegalCommand ∧ t.done = true ∧ t.history = s.history
    else if (v = 0x01#8 ∨ v = 0x02#8 ∨ v = 0x07#8) ∧ s.session ≠ .ready then
      t.result = .notReady ∧ t.done = true ∧ t.history = s.history
    else if (v = 0x02#8 ∧ 250 < s.txlen.toNat) ∨ (v = 0x07#8 ∧ 249 < s.txlen.toNat) then
      t.result = .invalidLength ∧ t.done = true ∧ t.history = s.history ++ [.clr]
    else t.result = .none ∨ t.result = .ok

/-! ### The wire rows -/

/-- TX_READ_REQ, TX_WRITE_REQ, TX_RPC_REQ: the request is built, its checksum left in `CSUM`, and handed to the transport
in one `TxWrite`; what does not fit a PayloadLen byte is not built (R71, R151 to R154). -/
def Obligations.RequestRowsAreSent : Prop :=
  (∀ (s : State) (a : Addr) (l : Byte), exec (.txReadReq a l) s =
    .next { s with history := s.history ++ [.tx (encRead a l)], csum := checksum (encRead a l) }) ∧
  (∀ (s : State) (a : Addr) (d : List Byte), exec (.txWriteReq a d) s =
    .next (if d.length ≤ 250 then
      { s with history := s.history ++ [.tx (encWrite a d)], csum := checksum (encWrite a d) } else s)) ∧
  (∀ (s : State) (a : Addr) (pid : Byte) (m : List Byte), exec (.txRpcReq a pid m) s =
    .next (if m.length ≤ 249 then
      { s with history := s.history ++ [.tx (encRpc a pid m)], csum := checksum (encRpc a pid m) } else s))

/-- TX_EOT and TX_START_VS2 (R155, R156). -/
def Obligations.ControlRowsAreSent : Prop :=
  ∀ s : State, exec .txEot s = .next { s with history := s.history ++ [.tx [0x04#8]] } ∧
    exec .txStartVs2 s = .next { s with history := s.history ++ [.tx [0x16#8, 0x00#8, 0x00#8]] }

/-- RX_ENQ in the ENQ stage and RX_HS_ACK in the START stage (R225, R226). -/
def Obligations.HandshakeRowsRun : Prop :=
  (∀ s : State, s.ctl = .hsEnq → exec .rxEnq s = .next { s with
    history := s.history ++ [.clr, .tx [0x16#8, 0x00#8, 0x00#8]], attempt := 0, ctl := .hsStart }) ∧
  (∀ s : State, s.ctl = .hsStart → exec .rxHsAck s = .next { s with
    session := .ready
    done := true
    result := .ok
    rxlen := 0
    ctl := .idle
    dec := .done
    rxbuf := []
    attempt := 0 })

/-- RX_NACK and RX_FRAMING end the exchange with no payload (R185, R189, R235). -/
def Obligations.RejectionRowsRun : Prop :=
  (∀ s : State, s.ctl = .xch → s.dec = .awaitAck → exec .rxNack s = .next { s with
    done := true, result := .nack, rxlen := 0, ctl := .idle, dec := .done, rxbuf := [], attempt := 0 }) ∧
  (∀ (s : State) (x y : Byte), s.ctl = .xch → s.dec = .awaitStx → exec (.rxFraming x y) s = .next { s with
    done := true, result := .framingError, rxlen := 0, ctl := .idle, dec := .done, rxbuf := [], attempt := 0 })

/-- RX_RESPONSE_CHECKSUM_ERROR, RX_RESPONSE_DEVICE_ERROR and RX_RESPONSE_SUCCESS post the payload, the bytes from index 8
up to the checksum, a READ's success cut to the latched length (R192 to R195, R235). -/
def Obligations.OutcomeRowsRun : Prop :=
  ∀ (s : State) (r : Response), s.ctl = .xch → s.dec = .done →
    exec (.rxResponseChecksumError r) s = .next { s with
      done := true
      result := .checksumError
      rxlen := countByte (r.body.drop 5).length
      mem := Memory.setList s.mem 0x200 (r.body.drop 5)
      ctl := .idle
      dec := .done
      rxbuf := []
      attempt := 0 } ∧
    exec (.rxResponseDeviceError r) s = .next { s with
      done := true
      result := .remoteError
      rxlen := countByte (r.body.drop 5).length
      mem := Memory.setList s.mem 0x200 (r.body.drop 5)
      ctl := .idle
      dec := .done
      rxbuf := []
      attempt := 0 } ∧
    exec (.rxResponseSuccess r) s = .next { s with
      done := true
      result := .ok
      rxlen := countByte (if s.op = .read then (r.body.drop 5).take s.latchLen.toNat else r.body.drop 5).length
      mem := Memory.setList s.mem 0x200 (if s.op = .read then (r.body.drop 5).take s.latchLen.toNat else r.body.drop 5)
      ctl := .idle
      dec := .done
      rxbuf := []
      attempt := 0 }

/-- RX_RESPONSE: the checksum is computed over the whole telegram and compared with its last byte before the low nibble of
the byte at index 3 is looked at (R191 to R194, R279); index 3 is the check byte when PayloadLen is 0 (R193). -/
def Obligations.ResponseRowClassifies : Prop :=
  ∀ (s : State) (r : Response), s.ctl = .xch → s.dec = .awaitBody → r.body.length ≤ 255 →
    exec (.rxResponse r) s =
      exec (if sum8 (countByte r.body.length :: r.body) ≠ r.check then .rxResponseChecksumError r
          else if (r.body ++ [r.check]).headD 0 &&& 0x0F#8 = 0x03#8 then .rxResponseDeviceError r
          else .rxResponseSuccess r)
        { s with
          rxbuf := [0x06#8, 0x41#8, countByte r.body.length] ++ r.body ++ [r.check]
          dec := .done
          csum := sum8 (countByte r.body.length :: r.body) }

/-- Outside the state that recognises it, a received row changes nothing: its bytes are data there (R104). The model's own
reading, log entry 11. -/
def Obligations.RowsOutsideTheirState : Prop :=
  (∀ s : State, s.ctl ≠ .hsEnq → exec .rxEnq s = .next s) ∧
  (∀ s : State, s.ctl ≠ .hsStart → exec .rxHsAck s = .next s) ∧
  (∀ s : State, s.ctl ≠ .xch ∨ s.dec ≠ .awaitAck → exec .rxNack s = .next s) ∧
  (∀ (s : State) (x y : Byte), s.ctl ≠ .xch ∨ s.dec ≠ .awaitStx → exec (.rxFraming x y) s = .next s) ∧
  (∀ (s : State) (r : Response), s.ctl ≠ .xch ∨ s.dec ≠ .awaitBody → exec (.rxResponse r) s = .next s) ∧
  (∀ (s : State) (r : Response), s.ctl ≠ .xch ∨ s.dec ≠ .done →
    exec (.rxResponseChecksumError r) s = .next s ∧ exec (.rxResponseDeviceError r) s = .next s ∧
      exec (.rxResponseSuccess r) s = .next s)

/-- R276: the completion action, read through the host's registers, and what it does not write. The payload of every
complete response fits. -/
def Obligations.CompletionAction : Prop :=
  (∀ (s t : State) (code : Code) (p : List Byte), p.length ≤ 250 → t = s.raiseOutcome code p →
    t.hostRead 0x002 = codeByte code ∧ (t.hostRead 0x008).toNat = p.length ∧
    (∀ i : Nat, i < p.length → t.hostRead (BitVec.ofNat 10 (0x200 + i)) = byteAt p i) ∧
    (∀ a : Nat, a < 0x200 ∨ 0x200 + p.length ≤ a → Memory.get t.mem a = Memory.get s.mem a) ∧
    t.done = true ∧ t.ctl = .idle ∧ t.busy = false ∧ t.dec = .done ∧ t.rxbuf = [] ∧ t.attempt = 0 ∧
    t.session = s.session ∧ t.ovr = s.ovr ∧ t.op = s.op ∧ t.latchLen = s.latchLen ∧ t.cmd = s.cmd ∧
    t.addrHi = s.addrHi ∧ t.addrLo = s.addrLo ∧ t.len = s.len ∧ t.procId = s.procId ∧ t.txlen = s.txlen ∧
    (∀ i : Nat, i < 256 → t.txdata i = s.txdata i) ∧ t.csum = s.csum ∧ t.history = s.history ∧
    t.agenda = s.agenda ∧ t.hostGot = s.hostGot ∧ t.tick = s.tick ∧ t.epoch = s.epoch) ∧
  (∀ r : Response, r.wf = true → (responsePayload r).length ≤ 250)

/-- The frame of every instruction: the parameter registers, the host's record and the pending moves stay; a row that posts
nothing leaves memory as it is, and a response row leaves every byte outside `RXDATA[0]` up to its payload's length (a
READ's success cut to the latched length); only a command writes `CMD` and sets `OVR`, and none clears it; the transport
record only grows (R21, R27, R39, R69, R71, R220, R235, R276). -/
def Obligations.InstructionFrame : Prop :=
  ∀ (i : Instr) (s t : State), i.wf = true → exec i s = .next t →
    t.addrHi = s.addrHi ∧ t.addrLo = s.addrLo ∧ t.len = s.len ∧ t.procId = s.procId ∧ t.txlen = s.txlen ∧
    t.agenda = s.agenda ∧ t.hostGot = s.hostGot ∧ t.tick = s.tick ∧ t.epoch = s.epoch ∧
    (s.posts i = [] → t.mem = s.mem) ∧
    (∀ a : Nat, a < rxBase ∨ rxBase + (s.posts i).length ≤ a → Memory.get t.mem a = Memory.get s.mem a) ∧
    (i.port ≠ .command → t.cmd = s.cmd ∧ t.ovr = s.ovr) ∧ (s.ovr = true → t.ovr = true) ∧
    (∃ new : List Event, t.history = s.history ++ new)

/-! ### The polls -/

/-- R225: one poll of the ENQ stage. -/
def Obligations.EnqStagePoll : Prop :=
  ∀ (s : State) (chunk : List Byte) (moves : List Move), s.ctl = .hsEnq → s.agenda = .poll chunk :: moves →
    step s = .next (
      if 0x05#8 ∈ chunk then { s with
        agenda := moves
        history := s.history ++ [.rx chunk, .clr, .tx [0x16#8, 0x00#8, 0x00#8]]
        tick := s.tick + 1
        attempt := 0
        ctl := .hsStart }
      else if s.attempt + 1 = 30 then { s with
        agenda := moves
        history := s.history ++ [.rx chunk]
        tick := s.tick + 1
        session := .faulted
        done := true
        result := .hsFailEnq
        rxlen := 0
        ctl := .idle
        dec := .done
        rxbuf := []
        attempt := 0 }
      else { s with
        agenda := moves, history := s.history ++ [.rx chunk], tick := s.tick + 1, attempt := s.attempt + 1 })

/-- R226: one poll of the START stage. -/
def Obligations.StartStagePoll : Prop :=
  ∀ (s : State) (chunk : List Byte) (moves : List Move), s.ctl = .hsStart → s.agenda = .poll chunk :: moves →
    step s = .next (
      if 0x06#8 ∈ chunk then { s with
        agenda := moves
        history := s.history ++ [.rx chunk]
        tick := s.tick + 1
        session := .ready
        done := true
        result := .ok
        rxlen := 0
        ctl := .idle
        dec := .done
        rxbuf := []
        attempt := 0 }
      else if s.attempt + 1 = 30 then { s with
        agenda := moves
        history := s.history ++ [.rx chunk]
        tick := s.tick + 1
        session := .faulted
        done := true
        result := .hsFailStart
        rxlen := 0
        ctl := .idle
        dec := .done
        rxbuf := []
        attempt := 0 }
      else { s with
        agenda := moves, history := s.history ++ [.rx chunk], tick := s.tick + 1, attempt := s.attempt + 1 })

/-- A poll of an exchange is what R233 and R196 write: append, `DECODE`, then the outcome posted as R235 says, or
`TIMEOUT` on the 300th poll, or another wait. What a checksum leaves in `CSUM` is not said here. -/
def Obligations.ExchangePollFollowsDecode : Prop :=
  ∀ (s : State) (chunk : List Byte) (moves : List Move), s.DecInv → s.ctl = .xch → s.agenda = .poll chunk :: moves →
    ∃ k : Byte, step s = .next (
      match (refDecode s.dec ((s.rxbuf ++ chunk).take 259)).2.2 with
      | some out => { s with
          agenda := moves
          history := s.history ++ [.rx chunk]
          tick := s.tick + 1
          csum := k
          done := true
          result := (refPost s.op s.latchLen out).1
          rxlen := countByte (refPost s.op s.latchLen out).2.length
          mem := Memory.setList s.mem 0x200 (refPost s.op s.latchLen out).2
          ctl := .idle
          dec := .done
          rxbuf := []
          attempt := 0 }
      | none =>
        if s.attempt + 1 = 300 then { s with
          agenda := moves
          history := s.history ++ [.rx chunk]
          tick := s.tick + 1
          done := true
          result := .timeout
          rxlen := 0
          ctl := .idle
          dec := .done
          rxbuf := []
          attempt := 0 }
        else { s with
          agenda := moves
          history := s.history ++ [.rx chunk]
          tick := s.tick + 1
          dec := (refDecode s.dec ((s.rxbuf ++ chunk).take 259)).1
          rxbuf := (refDecode s.dec ((s.rxbuf ++ chunk).take 259)).2.1
          attempt := s.attempt + 1 })

/-- R185: a leading VS2-NACK ends the exchange in the poll that holds it, whatever follows it. -/
def Obligations.NackEndsTheExchange : Prop :=
  ∀ (s : State) (tail : List Byte) (moves : List Move), s.ctl = .xch → s.dec = .awaitAck → s.rxbuf = [] →
    s.agenda = .poll (0x15#8 :: tail) :: moves →
    ∃ t : State, step s = .next t ∧ t.result = .nack ∧ t.rxlen = 0 ∧ t.done = true ∧ t.ctl = .idle ∧
      t.session = s.session ∧ t.history = s.history ++ [.rx (0x15#8 :: tail)]

/-- R234: an exchange whose polls all return nothing is still waiting after 299 of them and ends with `TIMEOUT` on the
300th. -/
def Obligations.TimeoutOnPoll300 : Prop :=
  ∀ (s : State) (moves : List Move) (k : Nat), s.ctl = .xch → s.dec = .awaitAck → s.rxbuf = [] → s.attempt = 0 →
    k ≤ 300 → ∃ t : State, s.after (pollMoves (List.replicate k [])) moves = .next t ∧
      (k < 300 → t.ctl = .xch ∧ t.attempt.toNat = k ∧ t.result = s.result) ∧
      (k = 300 → t.ctl = .idle ∧ t.result = .timeout ∧ t.rxlen = 0 ∧ t.done = true ∧ t.session = s.session)

/-- R225 to R227: a stage that never receives its byte still waits after 29 polls and fails on the 30th, with the session
`FAULTED` and nothing sent. -/
def Obligations.StageFailsOnPoll30 : Prop :=
  ∀ (s : State) (moves : List Move) (chunks : List (List Byte)) (target : Byte),
    (s.ctl = .hsEnq ∧ target = 0x05#8) ∨ (s.ctl = .hsStart ∧ target = 0x06#8) → s.attempt = 0 →
    (∀ c ∈ chunks, target ∉ c) → chunks.length ≤ 30 →
    ∃ t : State, s.after (pollMoves chunks) moves = .next t ∧ sent t.history = sent s.history ∧
      (chunks.length < 30 → t.ctl = s.ctl ∧ t.attempt.toNat = chunks.length) ∧
      (chunks.length = 30 → t.ctl = .idle ∧ t.session = .faulted ∧ t.done = true ∧
        t.result = if s.ctl = .hsEnq then .hsFailEnq else .hsFailStart)

/-- R240: whatever the transport returns, an exchange has completed within 300 polls and a handshake within 60. -/
def Obligations.WaitsAreBounded : Prop :=
  ∀ (s : State) (moves : List Move) (chunks : List (List Byte)), s.Inv →
    ((s.ctl = .xch ∧ chunks.length = 300) ∨ (s.ctl.isStage = true ∧ chunks.length = 60)) →
    ∃ t : State, s.after (pollMoves chunks) moves = .next t ∧ t.ctl = .idle ∧ t.done = true ∧ t.result ≠ .none

/-- R186: once the buffer starts with a byte that is neither ACK nor NACK, no later byte moves the decoder, and the
exchange times out. -/
def Obligations.NoiseNeverClassifies : Prop :=
  ∀ (s : State) (moves : List Move) (chunks : List (List Byte)), s.ctl = .xch → s.dec = .awaitAck → s.rxbuf ≠ [] →
    byteAt s.rxbuf 0 ≠ 0x06#8 → byteAt s.rxbuf 0 ≠ 0x15#8 → s.attempt.toNat + chunks.length = 300 → chunks ≠ [] →
    ∃ t : State, s.after (pollMoves chunks) moves = .next t ∧ t.ctl = .idle ∧ t.result = .timeout ∧ t.rxlen = 0 ∧
      t.session = s.session

/-- R200, R233: a complete response with a matching checksum and no error nibble, delivered in any split across the polls
of an exchange, completes it with `OK` and its payload, a READ's cut to the latched length. -/
def Obligations.ResponseInAnySplitSucceeds : Prop :=
  ∀ (s : State) (r : Response) (moves : List Move) (chunks : List (List Byte)),
    s.ctl = .xch → s.dec = .awaitAck → s.rxbuf = [] → s.attempt = 0 →
    r.body.length ≤ 255 → sum8 (countByte r.body.length :: r.body) = r.check →
    (r.body ++ [r.check]).headD 0 &&& 0x0F#8 ≠ 0x03#8 → chunks.flatten = encode (.rxResponse r) → chunks.length ≤ 300 →
    ∃ t : State, s.after (pollMoves chunks) moves = .next t ∧ t.ctl = .idle ∧ t.done = true ∧ t.result = .ok ∧
      t.session = s.session ∧
      t.rxlen = countByte (if s.op = .read then (r.body.drop 5).take s.latchLen.toNat else r.body.drop 5).length ∧
      t.mem = Memory.setList s.mem 0x200 (if s.op = .read then (r.body.drop 5).take s.latchLen.toNat else r.body.drop 5)

/-- R199: the capacity of 259 bytes loses nothing: on every sequence of poll chunks, every larger buffer reaches the same
outcome with the same payload. -/
def Obligations.CapacityLosesNothing : Prop :=
  ∀ (chunks : List (List Byte)) (cap : Nat), 259 ≤ cap →
    refOutcome cap .awaitAck [] chunks = refOutcome 259 .awaitAck [] chunks

/-! ### The host registers -/

/-- R63: a host read changes nothing of the engine, and two reads in a row return the same byte. -/
def Obligations.HostReadsHaveNoSideEffect : Prop :=
  (∀ (s : State) (off : Off) (moves : List Move), s.agenda = .read off :: moves →
    step s = .next { s with agenda := moves, hostGot := s.hostGot ++ [s.hostRead off] }) ∧
  (∀ (s : State) (off : Off) (moves : List Move), s.after [.read off, .read off] moves =
    .next { s with agenda := moves, hostGot := s.hostGot ++ [s.hostRead off, s.hostRead off] })

/-- A write to a parameter register is stored, whatever `BUSY` is, is read back, and leaves every other register as it
was (R64, R313). That `RXDATA[i]` with `i >= RXLEN` reads the same before and after the write is the model's choice, log
entries 3 and 5: R32 and I2 let such a read give any value. -/
def Obligations.ParameterWriteIsReadBack : Prop :=
  ∀ (s : State) (off : Off) (v : Byte) (moves : List Move), isParam off = true → s.agenda = .write off v :: moves →
    ∃ t : State, step s = .next t ∧ t.hostRead off = v ∧ (∀ other : Off, other ≠ off → t.hostRead other = s.hostRead other) ∧
      t.agenda = moves ∧ t.ctl = s.ctl ∧ t.dec = s.dec ∧ t.attempt = s.attempt ∧ t.op = s.op ∧
      t.latchLen = s.latchLen ∧ t.rxbuf = s.rxbuf ∧ t.csum = s.csum ∧ t.history = s.history

/-- R61: the register at each offset, read and written; the numbers of the session states and of the completion codes
(R29, R271). -/
def Obligations.RegisterMap : Prop :=
  (∀ s : State, s.hostRead 0x000 = s.cmd ∧ s.hostRead 0x001 = s.status ∧ s.hostRead 0x002 = codeByte s.result ∧
    s.hostRead 0x003 = s.addrHi ∧ s.hostRead 0x004 = s.addrLo ∧ s.hostRead 0x005 = s.len ∧
    s.hostRead 0x006 = s.procId ∧ s.hostRead 0x007 = s.txlen ∧ s.hostRead 0x008 = s.rxlen ∧
    ∀ i : Nat, i < 256 → s.hostRead (BitVec.ofNat 10 (0x100 + i)) = s.txdata i ∧
      s.hostRead (BitVec.ofNat 10 (0x200 + i)) = s.rxdata i) ∧
  (∀ (s : State) (v : Byte) (moves : List Move),
    (s.agenda = .write 0x003 v :: moves → step s = .next { s with agenda := moves, addrHi := v }) ∧
    (s.agenda = .write 0x004 v :: moves → step s = .next { s with agenda := moves, addrLo := v }) ∧
    (s.agenda = .write 0x005 v :: moves → step s = .next { s with agenda := moves, len := v }) ∧
    (s.agenda = .write 0x006 v :: moves → step s = .next { s with agenda := moves, procId := v }) ∧
    (s.agenda = .write 0x007 v :: moves → step s = .next { s with agenda := moves, txlen := v }) ∧
    ∀ i : Nat, i < 256 → s.agenda = .write (BitVec.ofNat 10 (0x100 + i)) v :: moves →
      step s = .next { s with agenda := moves, mem := Memory.set s.mem (0x100 + i) v }) ∧
  [Session.uninitialized, .handshaking, .ready, .faulted].map sessionBits = [0, 1, 2, 3] ∧
  [Code.none, .ok, .remoteError, .nack, .framingError, .checksumError, .timeout, .notReady, .invalidLength, .hsFailEnq,
    .hsFailStart, .illegalCommand].map codeByte = [0, 1, 2, 3, 4, 5, 6, 7, 8, 9, 10, 11]

/-- R62: reserved offsets read 0x00; writes to reserved offsets and read-only registers change no state. -/
def Obligations.IgnoredOffsets : Prop :=
  (∀ (s : State) (off : Off), (0x009 ≤ off.toNat ∧ off.toNat ≤ 0x0FF) ∨ 0x300 ≤ off.toNat → s.hostRead off = 0x00#8) ∧
  (∀ (s : State) (off : Off) (v : Byte) (moves : List Move), isIgnored off = true → s.agenda = .write off v :: moves →
    step s = .next { s with agenda := moves })

/-- R28: the fields of `STATUS`, its write-1-to-clear bits and its reset value. -/
def Obligations.StatusRegister : Prop :=
  (∀ s : State, s.hostRead 0x001 = s.status ∧ s.status.getLsbD 0 = (s.ctl != .idle) ∧ s.status.getLsbD 1 = s.done ∧
    s.status.getLsbD 2 = s.ovr ∧ s.status.getLsbD 3 = false ∧ s.status.extractLsb' 4 2 = sessionBits s.session ∧
    s.status.getLsbD 6 = false ∧ s.status.getLsbD 7 = false) ∧
  (∀ (s : State) (v : Byte) (moves : List Move), s.agenda = .write 0x001 v :: moves →
    step s = .next { s with agenda := moves, done := s.done && !v.getLsbD 1, ovr := s.ovr && !v.getLsbD 2 }) ∧
  State.reset.status = 0x00#8

/-- R69: a parameter write made while a command waits never changes what the command does: it may as well come after the
poll. -/
def Obligations.InputsAreLatched : Prop :=
  ∀ (s : State) (off : Off) (v : Byte) (chunk : List Byte) (moves : List Move), Memory.wf s.mem = true →
    isParam off = true →
    s.after [.write off v, .poll chunk] moves = s.after [.poll chunk, .write off v] moves

/-- R109, R229: the host line `WRITE a, [d0, ..., d(k-1)]` from an idle ready session sends exactly the write request of
its operands and starts the exchange. -/
def Obligations.WriteLineSendsItsTelegram : Prop :=
  ∀ (s : State) (a : Addr) (data : List Byte) (moves : List Move), s.ctl = .idle → s.session = .ready →
    data.length ≤ 250 →
    ∃ t : State, s.after (HostLine.write a data).expand moves = .next t ∧ t.ctl = .xch ∧ t.op = .write ∧
      t.history = s.history ++ [.clr, .tx (encWrite a data)] ∧ t.agenda = moves ∧ t.rxbuf = [] ∧
      t.dec = .awaitAck ∧ t.attempt = 0 ∧ t.session = .ready

/-! ### Reset and the rules of the whole machine -/

/-- R43: the reset values, by field and as the host reads them; `TXDATA` and `RXDATA` read any value. -/
def Obligations.ResetValues : Prop :=
  State.reset.addrHi = 0 ∧ State.reset.addrLo = 0 ∧ State.reset.len = 0 ∧ State.reset.procId = 0 ∧
  State.reset.txlen = 0 ∧ State.reset.cmd = 0 ∧ State.reset.status = 0 ∧ State.reset.done = false ∧
  State.reset.ovr = false ∧ State.reset.session = .uninitialized ∧ State.reset.result = .none ∧
  State.reset.rxlen = 0 ∧ State.reset.ctl = .idle ∧ State.reset.dec = .awaitAck ∧ State.reset.attempt = 0 ∧
  State.reset.op = .none ∧ State.reset.latchLen = 0 ∧ State.reset.rxbuf = [] ∧ State.reset.csum = 0 ∧
  (∀ off : Off, off.toNat ≤ 8 → State.reset.hostRead off = 0x00#8)

/-- R300: the reset event gives every state of R43 its reset value in one step, with no transport operation and no
completion; the transport record, the host's record and the moves still to come stay. -/
def Obligations.ResetEvent : Prop :=
  ∀ (s : State) (moves : List Move), s.agenda = .reset :: moves →
    step s = .next { State.reset with
      agenda := moves, history := s.history, hostGot := s.hostGot, tick := s.tick + 1, epoch := s.epoch + 1 }

/-- The invariants of R42, the decoder's and the memory's form hold at reset. -/
def Obligations.InvariantsAtReset : Prop :=
  State.reset.Inv ∧ State.reset.DecInv ∧ Memory.wf State.reset.mem = true ∧ State.reset.rxlen.toNat ≤ 250

/-- R42: the invariants hold after every step. -/
def Obligations.StepKeepsInvariants : Prop := ∀ s t : State, s.Inv → step s = .next t → t.Inv

/-- While an exchange waits, every step keeps what the decoder's state says of the buffer (R183 to R190, R198). -/
def Obligations.StepKeepsDecoderInvariant : Prop := ∀ s t : State, s.DecInv → step s = .next t → t.DecInv

/-- Every step keeps the canonical form of memory. -/
def Obligations.StepKeepsMemoryForm : Prop :=
  ∀ s t : State, Memory.wf s.mem = true → step s = .next t → Memory.wf t.mem = true

/-- R31: `RXLEN` stays at most 250. -/
def Obligations.StepKeepsResultLength : Prop :=
  ∀ s t : State, s.rxlen.toNat ≤ 250 → step s = .next t → t.rxlen.toNat ≤ 250

/-- R223: the session moves only along its table: to `HANDSHAKING` by an accepted HANDSHAKE; from `HANDSHAKING` to `READY`
by a START-stage poll that returns VS2-ACK, or to `FAULTED` by the 30th poll of a stage that does not return its byte; to
`UNINITIALIZED` by an accepted CLOSE or a reset. So no outcome of an exchange changes it. -/
def Obligations.SessionTransitions : Prop :=
  ∀ s t : State, s.Inv → step s = .next t → t.session = s.session ∨
    (t.session = .handshaking ∧ s.ctl = .idle ∧ ∃ moves, s.agenda = .write offCmd 0x10#8 :: moves) ∨
    (t.session = .ready ∧ s.session = .handshaking ∧ s.ctl = .hsStart ∧
      ∃ c, t.history = s.history ++ [.rx c] ∧ 0x06#8 ∈ c) ∨
    (t.session = .faulted ∧ s.session = .handshaking ∧ s.attempt + 1 = 30 ∧
      ∃ c, t.history = s.history ++ [.rx c] ∧
        ((s.ctl = .hsEnq ∧ 0x05#8 ∉ c) ∨ (s.ctl = .hsStart ∧ 0x06#8 ∉ c))) ∨
    (t.session = .uninitialized ∧ s.ctl = .idle ∧ ∃ moves, s.agenda = .write offCmd 0x11#8 :: moves) ∨
    (t.session = .uninitialized ∧ ∃ moves, s.agenda = .reset :: moves)

/-- R75: a step writes to the transport at most once, and only where it accepts a command (the command then waits, or is
CLOSE; one refused with NOT_READY or INVALID_LENGTH sends nothing), or in the poll that ends the ENQ stage; never while an
exchange waits. The transport record only grows. -/
def Obligations.TransmitsOnlyWhereAllowed : Prop :=
  ∀ s t : State, step s = .next t →
    ∃ new : List Event, t.history = s.history ++ new ∧ (sent new).length ≤ 1 ∧
      (sent new ≠ [] →
        (s.ctl = .idle ∧ ∃ v moves, s.agenda = .write offCmd v :: moves ∧ isCommandOpcode v = true ∧
          (t.ctl ≠ .idle ∨ v = 0x11#8)) ∨
        (s.ctl = .hsEnq ∧ t.ctl = .hsStart ∧ ∃ c, 0x05#8 ∈ c ∧ new.head? = some (.rx c)))

/-- R39: `OVR` is set only by a `CMD` write while busy, and cleared only by a 1 written to `STATUS` bit 2 or by reset. -/
def Obligations.OverrunIsSticky : Prop :=
  ∀ s t : State, step s = .next t →
    (s.ovr = true → t.ovr = true ∨ ∃ m moves, s.agenda = m :: moves ∧ m.clearsOvr = true) ∧
    (s.ovr = false → t.ovr = true → s.ctl ≠ .idle ∧ ∃ v moves, s.agenda = .write offCmd v :: moves)
end

