-- ==== Sys2Proof/Laws/Bits.lean ====
section
/-! SUPPORT. The parameters' values, and the small lemmas of the byte and byte-list primitives. -/

namespace Sys2Proof

@[simp] theorem config_hsPolls : config.hsPolls = 30 := rfl
@[simp] theorem config_xchPolls : config.xchPolls = 300 := rfl
@[simp] theorem config_rxbufCap : config.rxbufCap = 259 := rfl
@[simp] theorem config_maxPayloadLen : config.maxPayloadLen = 255 := rfl
@[simp] theorem config_maxWriteData : config.maxWriteData = 250 := rfl
@[simp] theorem config_maxRpcArgs : config.maxRpcArgs = 249 := rfl
@[simp] theorem config_errIndex : config.errIndex = 3 := rfl
@[simp] theorem config_errNibble : config.errNibble = 0x03#8 := rfl

end Sys2Proof

namespace Sys2Proof.Machine

@[simp] theorem byteAt_zero (b : Byte) (l : List Byte) : byteAt (b :: l) 0 = b := rfl
@[simp] theorem byteAt_succ (b : Byte) (l : List Byte) (i : Nat) : byteAt (b :: l) (i + 1) = byteAt l i := rfl
@[simp] theorem byteAt_nil (i : Nat) : byteAt [] i = 0 := by simp [byteAt]

theorem byteAt_lt (l : List Byte) (i : Nat) (h : i < l.length) : byteAt l i = l[i] := by simp [byteAt, h]

theorem byteAt_append_left (l m : List Byte) (i : Nat) (h : i < l.length) : byteAt (l ++ m) i = byteAt l i := by
  rw [byteAt_lt _ _ h, byteAt_lt _ _ (by simp; omega), List.getElem_append_left h]

theorem byteAt_append_right (l m : List Byte) (i : Nat) (h : l.length ≤ i) : byteAt (l ++ m) i = byteAt m (i - l.length) := by
  simp only [byteAt, List.getD_eq_getElem?_getD, List.getElem?_append_right h]

theorem byteAt_take (l : List Byte) (n i : Nat) (h : i < n) : byteAt (l.take n) i = byteAt l i := by
  simp only [byteAt, List.getD_eq_getElem?_getD, List.getElem?_take_of_lt h]

@[simp] theorem slice_zero (l : List Byte) (b : Nat) : slice l 0 b = l.take b := by simp [slice]
@[simp] theorem slice_succ (x : Byte) (l : List Byte) (a b : Nat) : slice (x :: l) (a + 1) (b + 1) = slice l a b := by
  simp [slice]

theorem slice_length (l : List Byte) (a b : Nat) : (slice l a b).length = min b l.length - a := by simp [slice]

/-- A slice inside a list is not changed by what follows the list. -/
theorem slice_append_left (l m : List Byte) (a b : Nat) (h : b ≤ l.length) : slice (l ++ m) a b = slice l a b := by
  simp [slice, List.take_append_of_le_length h]

@[simp] theorem countByte_toNat (n : Nat) : (countByte n).toNat = n % 256 := by simp [countByte]

theorem countByte_of_byte (b : Byte) : countByte b.toNat = b := by simp [countByte]

@[simp] theorem sum8_nil : sum8 [] = 0 := rfl

theorem sum8_cons (b : Byte) (l : List Byte) : sum8 (b :: l) = b + sum8 l := by
  apply BitVec.eq_of_toNat_eq; simp [sum8]

theorem sum8_append (l m : List Byte) : sum8 (l ++ m) = sum8 l + sum8 m := by
  induction l with
  | nil => simp
  | cons b l ih => simp [sum8_cons, ih, BitVec.add_assoc]

@[simp] theorem joinAddr_hi_lo (a : Addr) : joinAddr (hi8 a) (lo8 a) = a := by
  apply BitVec.eq_of_toNat_eq
  simp [joinAddr, hi8, lo8, Nat.shiftRight_eq_div_pow]
  omega

@[simp] theorem hi8_joinAddr (h l : Byte) : hi8 (joinAddr h l) = h := by
  apply BitVec.eq_of_toNat_eq
  have := h.isLt; have := l.isLt
  simp [joinAddr, hi8, Nat.shiftRight_eq_div_pow]
  omega

@[simp] theorem lo8_joinAddr (h l : Byte) : lo8 (joinAddr h l) = l := by
  apply BitVec.eq_of_toNat_eq
  have := h.isLt; have := l.isLt
  simp [joinAddr, lo8]
  omega

end Sys2Proof.Machine
end

