-- ==== Sys2Proof/Laws/Telegram.lean ====
section
/-! SUPPORT. The summed range of a telegram, the lengths of telegrams, and a response's bytes and fields. -/

namespace Sys2Proof.Machine

/-- A list the STX case sums. -/
theorem checksumRange_stx (p : Byte) (l : List Byte) :
    checksumRange (0x41#8 :: p :: l) = some (slice (p :: l) 0 (p.toNat + 1)) := by
  simp [checksumRange, slice]

/-- A list the ACK case sums. -/
theorem checksumRange_ack (x d : Byte) (l : List Byte) :
    checksumRange (0x06#8 :: x :: d :: l) = some (slice (d :: l) 0 (d.toNat + 1)) := by
  simp [checksumRange, slice]

@[simp] theorem writeLengthOk_iff (n : Nat) : writeLengthOk n = true ↔ n ≤ 250 := by
  simp only [writeLengthOk, decide_eq_true_eq]; omega

@[simp] theorem rpcLengthOk_iff (n : Nat) : rpcLengthOk n = true ↔ n ≤ 249 := by
  simp only [rpcLengthOk, decide_eq_true_eq]; omega

@[simp] theorem encReq_length (fc : Byte) (a : Addr) (bl : Byte) (d : List Byte) : (encReq fc a bl d).length = 8 + d.length := by
  simp [encReq, reqBody]; omega

@[simp] theorem encReq_dropLast (fc : Byte) (a : Addr) (bl : Byte) (d : List Byte) :
    (encReq fc a bl d).dropLast = reqBody fc a bl d := by simp [encReq]

@[simp] theorem responseBytes_length (r : Response) : (responseBytes r).length = r.body.length + 4 := by
  simp [responseBytes]

/-- R103: a response is at most 259 bytes long. -/
theorem responseBytes_bounds (r : Response) (h : r.wf = true) :
    1 ≤ (responseBytes r).length ∧ (responseBytes r).length ≤ 259 := by
  have : r.body.length ≤ 255 := by simpa only [Response.wf, decide_eq_true_eq] using h
  simp only [responseBytes_length]; omega

/-- R195: the payload is the body after its five header bytes. -/
theorem responsePayload_eq (r : Response) : responsePayload r = r.body.drop 5 := by
  have h : (responseBytes r).take (r.body.length + 3) = [0x06#8, 0x41#8, countByte r.body.length] ++ r.body := by
    rw [responseBytes, List.take_append_of_le_length (by simp)]
    exact List.take_of_length_le (by simp)
  rw [responsePayload, slice, h]
  simp

@[simp] theorem Response.wf_iff (r : Response) : r.wf = true ↔ r.body.length ≤ 255 := by
  simp only [Response.wf, decide_eq_true_eq]

/-- R96: the largest payload is 250 bytes. -/
theorem responsePayload_length (r : Response) (h : r.body.length ≤ 255) : (responsePayload r).length ≤ 250 := by
  simp [responsePayload_eq]; omega

/-- The summed range of a response with a one-byte PayloadLen: PayloadLen and the body (R132). -/
theorem checksumRange_response (r : Response) (h : r.body.length ≤ 255) :
    checksumRange (responseBytes r) = some (countByte r.body.length :: r.body) := by
  have : r.body.length % 256 = r.body.length := by omega
  simp only [responseBytes, List.cons_append, List.nil_append, checksumRange_ack, countByte_toNat, this, slice_zero,
    List.take_succ_cons, List.take_left]

theorem checksum_response (r : Response) (h : r.body.length ≤ 255) :
    checksum (responseBytes r) = sum8 (countByte r.body.length :: r.body) := by
  simp [checksum, checksumRange_response r h]

/-- A response split off a buffer has a one-byte PayloadLen, that of the buffer's index 2. -/
theorem splitResponse_some (buf rest : List Byte) (r : Response) (h : splitResponse buf = some (r, rest)) :
    2 < buf.length ∧ (byteAt buf 2).toNat + 4 ≤ buf.length ∧ r.body = slice buf 3 ((byteAt buf 2).toNat + 3) ∧
      r.check = byteAt buf ((byteAt buf 2).toNat + 3) ∧ r.body.length = (byteAt buf 2).toNat ∧
      rest = buf.drop ((byteAt buf 2).toNat + 4) := by
  simp only [splitResponse, Option.ite_none_left_eq_some, not_or, Nat.not_lt, Option.some.injEq, Prod.mk.injEq] at h
  obtain ⟨⟨h3, h4⟩, rfl, rfl⟩ := h
  refine ⟨by omega, h4, rfl, rfl, ?_, rfl⟩
  simp only [slice_length]
  omega

end Sys2Proof.Machine
end

