-- ==== Sys2Proof/Laws/Codec.lean ====
section
/-! SUPPORT. Built telegrams read back: a request's checksum and what the accumulator leaves, a request and a response
split off the bytes that follow them. -/

namespace Sys2Proof.Machine

/-- The accumulator's loop adds the exact sum, modulo 256 (R136). -/
theorem accumulate_loop (l : List Byte) : ∀ a : Byte, l.foldl (fun acc b => acc + b) a = a + sum8 l := by
  induction l with
  | nil => simp
  | cons b l ih => intro a; simp [ih, sum8_cons, BitVec.add_assoc]

@[simp] theorem accumulate_eq (l : List Byte) : accumulate l = sum8 l := by simp [accumulate, accumulate_loop]

/-- The PayloadLen byte of a request that fits it. -/
theorem payloadLen_toNat (n : Nat) (h : 5 + n ≤ 255) : (countByte (5 + n)).toNat = 5 + n := by
  simp only [countByte_toNat]; omega

/-- The checksum of a request without its checksum byte: everything after STX (R131). -/
theorem checksum_reqBody (fc : Byte) (a : Addr) (bl : Byte) (d : List Byte) (h : 5 + d.length ≤ 255) :
    checksum (reqBody fc a bl d) = sum8 ((reqBody fc a bl d).drop 1) := by
  simp only [reqBody, checksum, List.cons_append, List.nil_append, checksumRange_stx, payloadLen_toNat _ h, slice_zero]
  rw [List.take_of_length_le (by simp; omega)]
  rfl

/-- The checksum byte at the end does not change the sum (R137). -/
theorem checksum_encReq (fc : Byte) (a : Addr) (bl : Byte) (d : List Byte) (h : 5 + d.length ≤ 255) :
    checksum (encReq fc a bl d) = checksum (reqBody fc a bl d) := by
  rw [encReq]
  simp only [reqBody, checksum, List.cons_append, List.nil_append, checksumRange_stx, payloadLen_toNat _ h, slice_zero]
  congr 1
  rw [← List.cons_append, ← List.cons_append, ← List.cons_append, ← List.cons_append, ← List.cons_append,
    ← List.cons_append, List.take_append_of_le_length (by simp; omega)]

/-- What building a request leaves in `CSUM` (R38, R136). -/
theorem csumAfter_reqBody (b fc : Byte) (a : Addr) (bl : Byte) (d : List Byte) (h : 5 + d.length ≤ 255) :
    csumAfter b (reqBody fc a bl d) = checksum (encReq fc a bl d) := by
  rw [checksum_encReq _ _ _ _ h]
  simp [csumAfter, checksum, reqBody, checksumRange_stx]

/-- A response at the front of a buffer is split off it (R190, R191). -/
theorem splitResponse_responseBytes (r : Response) (rest : List Byte) (h : r.body.length ≤ 255) :
    splitResponse (responseBytes r ++ rest) = some (r, rest) := by
  have e : (countByte r.body.length).toNat = r.body.length := by simp only [countByte_toNat]; omega
  have h2 : byteAt (responseBytes r ++ rest) 2 = countByte r.body.length := rfl
  have hs : slice (responseBytes r ++ rest) 3 (r.body.length + 3) = r.body := by
    simp [responseBytes, slice]
  have hb : byteAt (responseBytes r ++ rest) (r.body.length + 3) = r.check := by
    rw [show responseBytes r ++ rest = ([0x06#8, 0x41#8, countByte r.body.length] ++ r.body) ++ (r.check :: rest) by
      simp [responseBytes], byteAt_append_right _ _ _ (by simp)]
    simp
  have hd : (responseBytes r ++ rest).drop (r.body.length + 4) = rest := by
    rw [show r.body.length + 4 = (responseBytes r).length by simp, List.drop_left]
  simp only [splitResponse, h2, e, hs, hb, hd]
  rw [if_neg (by simp; omega)]

/-- A built request is read as its fields say, and what follows it is left (R93, R150). -/
theorem decodeTransmit_encReq (fc : Byte) (a : Addr) (bl : Byte) (d rest : List Byte) (h : 5 + d.length ≤ 255) :
    decodeTransmit (encReq fc a bl d ++ rest) = (match decodeRequestFields (encReq fc a bl d) (5 + d.length) with
      | .ok i => .ok (i, rest)
      | .error e => .error e) := by
  have h0 : byteAt (encReq fc a bl d ++ rest) 0 = 0x41#8 := rfl
  have h1 : byteAt (encReq fc a bl d ++ rest) 1 = countByte (5 + d.length) := rfl
  have hl : 5 + d.length + 3 = (encReq fc a bl d).length := by simp; omega
  have hc : byteAt (encReq fc a bl d) (5 + d.length + 2) = checksum (reqBody fc a bl d) := by
    rw [encReq, byteAt_append_right _ _ _ (by simp [reqBody]; omega)]
    rw [show 5 + d.length + 2 - (reqBody fc a bl d).length = 0 by simp [reqBody]; omega, byteAt_zero]
  have hr : decodeRequest (encReq fc a bl d) (5 + d.length) = decodeRequestFields (encReq fc a bl d) (5 + d.length) := by
    rw [decodeRequest, if_neg (by omega), if_neg (by simp [encReq, reqBody]), hc, checksum_encReq fc a bl d h,
      if_neg (by simp)]
  rw [decodeTransmit, if_neg (by simp [encReq, reqBody]), h0, if_neg (by decide), if_neg (by decide), if_pos rfl]
  simp only [h1, payloadLen_toNat _ h, hl, List.take_left, List.drop_left, hr]
  exact (if_neg (by simp; omega)).trans (by cases decodeRequestFields (encReq fc a bl d) (5 + d.length) <;> rfl)

end Sys2Proof.Machine
end

