-- ==== Sys2Proof/Laws/State.lean ====
section
/-! SUPPORT. One lemma per field per named update of the state: what the update leaves in that field. -/

namespace Sys2Proof.Machine

variable (s : State)

@[simp] theorem State.txWrite_addrHi (l : List Byte) : (s.txWrite l).addrHi = s.addrHi := rfl
@[simp] theorem State.txWrite_addrLo (l : List Byte) : (s.txWrite l).addrLo = s.addrLo := rfl
@[simp] theorem State.txWrite_len (l : List Byte) : (s.txWrite l).len = s.len := rfl
@[simp] theorem State.txWrite_procId (l : List Byte) : (s.txWrite l).procId = s.procId := rfl
@[simp] theorem State.txWrite_txlen (l : List Byte) : (s.txWrite l).txlen = s.txlen := rfl
@[simp] theorem State.txWrite_mem (l : List Byte) : (s.txWrite l).mem = s.mem := rfl
@[simp] theorem State.txWrite_cmd (l : List Byte) : (s.txWrite l).cmd = s.cmd := rfl
@[simp] theorem State.txWrite_done (l : List Byte) : (s.txWrite l).done = s.done := rfl
@[simp] theorem State.txWrite_ovr (l : List Byte) : (s.txWrite l).ovr = s.ovr := rfl
@[simp] theorem State.txWrite_session (l : List Byte) : (s.txWrite l).session = s.session := rfl
@[simp] theorem State.txWrite_result (l : List Byte) : (s.txWrite l).result = s.result := rfl
@[simp] theorem State.txWrite_rxlen (l : List Byte) : (s.txWrite l).rxlen = s.rxlen := rfl
@[simp] theorem State.txWrite_ctl (l : List Byte) : (s.txWrite l).ctl = s.ctl := rfl
@[simp] theorem State.txWrite_dec (l : List Byte) : (s.txWrite l).dec = s.dec := rfl
@[simp] theorem State.txWrite_attempt (l : List Byte) : (s.txWrite l).attempt = s.attempt := rfl
@[simp] theorem State.txWrite_op (l : List Byte) : (s.txWrite l).op = s.op := rfl
@[simp] theorem State.txWrite_latchLen (l : List Byte) : (s.txWrite l).latchLen = s.latchLen := rfl
@[simp] theorem State.txWrite_rxbuf (l : List Byte) : (s.txWrite l).rxbuf = s.rxbuf := rfl
@[simp] theorem State.txWrite_csum (l : List Byte) : (s.txWrite l).csum = s.csum := rfl
@[simp] theorem State.txWrite_history (l : List Byte) : (s.txWrite l).history = s.history ++ [.tx l] := rfl
@[simp] theorem State.txWrite_agenda (l : List Byte) : (s.txWrite l).agenda = s.agenda := rfl
@[simp] theorem State.txWrite_hostGot (l : List Byte) : (s.txWrite l).hostGot = s.hostGot := rfl
@[simp] theorem State.txWrite_tick (l : List Byte) : (s.txWrite l).tick = s.tick := rfl
@[simp] theorem State.txWrite_epoch (l : List Byte) : (s.txWrite l).epoch = s.epoch := rfl

@[simp] theorem State.rxClear_addrHi : (s.rxClear).addrHi = s.addrHi := rfl
@[simp] theorem State.rxClear_addrLo : (s.rxClear).addrLo = s.addrLo := rfl
@[simp] theorem State.rxClear_len : (s.rxClear).len = s.len := rfl
@[simp] theorem State.rxClear_procId : (s.rxClear).procId = s.procId := rfl
@[simp] theorem State.rxClear_txlen : (s.rxClear).txlen = s.txlen := rfl
@[simp] theorem State.rxClear_mem : (s.rxClear).mem = s.mem := rfl
@[simp] theorem State.rxClear_cmd : (s.rxClear).cmd = s.cmd := rfl
@[simp] theorem State.rxClear_done : (s.rxClear).done = s.done := rfl
@[simp] theorem State.rxClear_ovr : (s.rxClear).ovr = s.ovr := rfl
@[simp] theorem State.rxClear_session : (s.rxClear).session = s.session := rfl
@[simp] theorem State.rxClear_result : (s.rxClear).result = s.result := rfl
@[simp] theorem State.rxClear_rxlen : (s.rxClear).rxlen = s.rxlen := rfl
@[simp] theorem State.rxClear_ctl : (s.rxClear).ctl = s.ctl := rfl
@[simp] theorem State.rxClear_dec : (s.rxClear).dec = s.dec := rfl
@[simp] theorem State.rxClear_attempt : (s.rxClear).attempt = s.attempt := rfl
@[simp] theorem State.rxClear_op : (s.rxClear).op = s.op := rfl
@[simp] theorem State.rxClear_latchLen : (s.rxClear).latchLen = s.latchLen := rfl
@[simp] theorem State.rxClear_rxbuf : (s.rxClear).rxbuf = s.rxbuf := rfl
@[simp] theorem State.rxClear_csum : (s.rxClear).csum = s.csum := rfl
@[simp] theorem State.rxClear_history : (s.rxClear).history = s.history ++ [.clr] := rfl
@[simp] theorem State.rxClear_agenda : (s.rxClear).agenda = s.agenda := rfl
@[simp] theorem State.rxClear_hostGot : (s.rxClear).hostGot = s.hostGot := rfl
@[simp] theorem State.rxClear_tick : (s.rxClear).tick = s.tick := rfl
@[simp] theorem State.rxClear_epoch : (s.rxClear).epoch = s.epoch := rfl

@[simp] theorem State.rxRead_addrHi (c : List Byte) : (s.rxRead c).addrHi = s.addrHi := rfl
@[simp] theorem State.rxRead_addrLo (c : List Byte) : (s.rxRead c).addrLo = s.addrLo := rfl
@[simp] theorem State.rxRead_len (c : List Byte) : (s.rxRead c).len = s.len := rfl
@[simp] theorem State.rxRead_procId (c : List Byte) : (s.rxRead c).procId = s.procId := rfl
@[simp] theorem State.rxRead_txlen (c : List Byte) : (s.rxRead c).txlen = s.txlen := rfl
@[simp] theorem State.rxRead_mem (c : List Byte) : (s.rxRead c).mem = s.mem := rfl
@[simp] theorem State.rxRead_cmd (c : List Byte) : (s.rxRead c).cmd = s.cmd := rfl
@[simp] theorem State.rxRead_done (c : List Byte) : (s.rxRead c).done = s.done := rfl
@[simp] theorem State.rxRead_ovr (c : List Byte) : (s.rxRead c).ovr = s.ovr := rfl
@[simp] theorem State.rxRead_session (c : List Byte) : (s.rxRead c).session = s.session := rfl
@[simp] theorem State.rxRead_result (c : List Byte) : (s.rxRead c).result = s.result := rfl
@[simp] theorem State.rxRead_rxlen (c : List Byte) : (s.rxRead c).rxlen = s.rxlen := rfl
@[simp] theorem State.rxRead_ctl (c : List Byte) : (s.rxRead c).ctl = s.ctl := rfl
@[simp] theorem State.rxRead_dec (c : List Byte) : (s.rxRead c).dec = s.dec := rfl
@[simp] theorem State.rxRead_attempt (c : List Byte) : (s.rxRead c).attempt = s.attempt := rfl
@[simp] theorem State.rxRead_op (c : List Byte) : (s.rxRead c).op = s.op := rfl
@[simp] theorem State.rxRead_latchLen (c : List Byte) : (s.rxRead c).latchLen = s.latchLen := rfl
@[simp] theorem State.rxRead_rxbuf (c : List Byte) : (s.rxRead c).rxbuf = s.rxbuf := rfl
@[simp] theorem State.rxRead_csum (c : List Byte) : (s.rxRead c).csum = s.csum := rfl
@[simp] theorem State.rxRead_history (c : List Byte) : (s.rxRead c).history = s.history ++ [.rx c] := rfl
@[simp] theorem State.rxRead_agenda (c : List Byte) : (s.rxRead c).agenda = s.agenda := rfl
@[simp] theorem State.rxRead_hostGot (c : List Byte) : (s.rxRead c).hostGot = s.hostGot := rfl
@[simp] theorem State.rxRead_tick (c : List Byte) : (s.rxRead c).tick = s.tick := rfl
@[simp] theorem State.rxRead_epoch (c : List Byte) : (s.rxRead c).epoch = s.epoch := rfl

@[simp] theorem State.runCsum_addrHi (l : List Byte) : (s.runCsum l).addrHi = s.addrHi := rfl
@[simp] theorem State.runCsum_addrLo (l : List Byte) : (s.runCsum l).addrLo = s.addrLo := rfl
@[simp] theorem State.runCsum_len (l : List Byte) : (s.runCsum l).len = s.len := rfl
@[simp] theorem State.runCsum_procId (l : List Byte) : (s.runCsum l).procId = s.procId := rfl
@[simp] theorem State.runCsum_txlen (l : List Byte) : (s.runCsum l).txlen = s.txlen := rfl
@[simp] theorem State.runCsum_mem (l : List Byte) : (s.runCsum l).mem = s.mem := rfl
@[simp] theorem State.runCsum_cmd (l : List Byte) : (s.runCsum l).cmd = s.cmd := rfl
@[simp] theorem State.runCsum_done (l : List Byte) : (s.runCsum l).done = s.done := rfl
@[simp] theorem State.runCsum_ovr (l : List Byte) : (s.runCsum l).ovr = s.ovr := rfl
@[simp] theorem State.runCsum_session (l : List Byte) : (s.runCsum l).session = s.session := rfl
@[simp] theorem State.runCsum_result (l : List Byte) : (s.runCsum l).result = s.result := rfl
@[simp] theorem State.runCsum_rxlen (l : List Byte) : (s.runCsum l).rxlen = s.rxlen := rfl
@[simp] theorem State.runCsum_ctl (l : List Byte) : (s.runCsum l).ctl = s.ctl := rfl
@[simp] theorem State.runCsum_dec (l : List Byte) : (s.runCsum l).dec = s.dec := rfl
@[simp] theorem State.runCsum_attempt (l : List Byte) : (s.runCsum l).attempt = s.attempt := rfl
@[simp] theorem State.runCsum_op (l : List Byte) : (s.runCsum l).op = s.op := rfl
@[simp] theorem State.runCsum_latchLen (l : List Byte) : (s.runCsum l).latchLen = s.latchLen := rfl
@[simp] theorem State.runCsum_rxbuf (l : List Byte) : (s.runCsum l).rxbuf = s.rxbuf := rfl
@[simp] theorem State.runCsum_csum (l : List Byte) : (s.runCsum l).csum = csumAfter s.csum l := rfl
@[simp] theorem State.runCsum_history (l : List Byte) : (s.runCsum l).history = s.history := rfl
@[simp] theorem State.runCsum_agenda (l : List Byte) : (s.runCsum l).agenda = s.agenda := rfl
@[simp] theorem State.runCsum_hostGot (l : List Byte) : (s.runCsum l).hostGot = s.hostGot := rfl
@[simp] theorem State.runCsum_tick (l : List Byte) : (s.runCsum l).tick = s.tick := rfl
@[simp] theorem State.runCsum_epoch (l : List Byte) : (s.runCsum l).epoch = s.epoch := rfl

@[simp] theorem State.sendRequest_addrHi (l : List Byte) : (s.sendRequest l).addrHi = s.addrHi := rfl
@[simp] theorem State.sendRequest_addrLo (l : List Byte) : (s.sendRequest l).addrLo = s.addrLo := rfl
@[simp] theorem State.sendRequest_len (l : List Byte) : (s.sendRequest l).len = s.len := rfl
@[simp] theorem State.sendRequest_procId (l : List Byte) : (s.sendRequest l).procId = s.procId := rfl
@[simp] theorem State.sendRequest_txlen (l : List Byte) : (s.sendRequest l).txlen = s.txlen := rfl
@[simp] theorem State.sendRequest_mem (l : List Byte) : (s.sendRequest l).mem = s.mem := rfl
@[simp] theorem State.sendRequest_cmd (l : List Byte) : (s.sendRequest l).cmd = s.cmd := rfl
@[simp] theorem State.sendRequest_done (l : List Byte) : (s.sendRequest l).done = s.done := rfl
@[simp] theorem State.sendRequest_ovr (l : List Byte) : (s.sendRequest l).ovr = s.ovr := rfl
@[simp] theorem State.sendRequest_session (l : List Byte) : (s.sendRequest l).session = s.session := rfl
@[simp] theorem State.sendRequest_result (l : List Byte) : (s.sendRequest l).result = s.result := rfl
@[simp] theorem State.sendRequest_rxlen (l : List Byte) : (s.sendRequest l).rxlen = s.rxlen := rfl
@[simp] theorem State.sendRequest_ctl (l : List Byte) : (s.sendRequest l).ctl = s.ctl := rfl
@[simp] theorem State.sendRequest_dec (l : List Byte) : (s.sendRequest l).dec = s.dec := rfl
@[simp] theorem State.sendRequest_attempt (l : List Byte) : (s.sendRequest l).attempt = s.attempt := rfl
@[simp] theorem State.sendRequest_op (l : List Byte) : (s.sendRequest l).op = s.op := rfl
@[simp] theorem State.sendRequest_latchLen (l : List Byte) : (s.sendRequest l).latchLen = s.latchLen := rfl
@[simp] theorem State.sendRequest_rxbuf (l : List Byte) : (s.sendRequest l).rxbuf = s.rxbuf := rfl
@[simp] theorem State.sendRequest_csum (l : List Byte) : (s.sendRequest l).csum = csumAfter s.csum l.dropLast := rfl
@[simp] theorem State.sendRequest_history (l : List Byte) : (s.sendRequest l).history = s.history ++ [.tx l] := rfl
@[simp] theorem State.sendRequest_agenda (l : List Byte) : (s.sendRequest l).agenda = s.agenda := rfl
@[simp] theorem State.sendRequest_hostGot (l : List Byte) : (s.sendRequest l).hostGot = s.hostGot := rfl
@[simp] theorem State.sendRequest_tick (l : List Byte) : (s.sendRequest l).tick = s.tick := rfl
@[simp] theorem State.sendRequest_epoch (l : List Byte) : (s.sendRequest l).epoch = s.epoch := rfl

@[simp] theorem State.raiseOutcome_addrHi (c : Code) (p : List Byte) : (s.raiseOutcome c p).addrHi = s.addrHi := rfl
@[simp] theorem State.raiseOutcome_addrLo (c : Code) (p : List Byte) : (s.raiseOutcome c p).addrLo = s.addrLo := rfl
@[simp] theorem State.raiseOutcome_len (c : Code) (p : List Byte) : (s.raiseOutcome c p).len = s.len := rfl
@[simp] theorem State.raiseOutcome_procId (c : Code) (p : List Byte) : (s.raiseOutcome c p).procId = s.procId := rfl
@[simp] theorem State.raiseOutcome_txlen (c : Code) (p : List Byte) : (s.raiseOutcome c p).txlen = s.txlen := rfl
@[simp] theorem State.raiseOutcome_mem (c : Code) (p : List Byte) : (s.raiseOutcome c p).mem = Memory.setList s.mem rxBase p := rfl
@[simp] theorem State.raiseOutcome_cmd (c : Code) (p : List Byte) : (s.raiseOutcome c p).cmd = s.cmd := rfl
@[simp] theorem State.raiseOutcome_done (c : Code) (p : List Byte) : (s.raiseOutcome c p).done = true := rfl
@[simp] theorem State.raiseOutcome_ovr (c : Code) (p : List Byte) : (s.raiseOutcome c p).ovr = s.ovr := rfl
@[simp] theorem State.raiseOutcome_session (c : Code) (p : List Byte) : (s.raiseOutcome c p).session = s.session := rfl
@[simp] theorem State.raiseOutcome_result (c : Code) (p : List Byte) : (s.raiseOutcome c p).result = c := rfl
@[simp] theorem State.raiseOutcome_rxlen (c : Code) (p : List Byte) : (s.raiseOutcome c p).rxlen = countByte p.length := rfl
@[simp] theorem State.raiseOutcome_ctl (c : Code) (p : List Byte) : (s.raiseOutcome c p).ctl = .idle := rfl
@[simp] theorem State.raiseOutcome_dec (c : Code) (p : List Byte) : (s.raiseOutcome c p).dec = .done := rfl
@[simp] theorem State.raiseOutcome_attempt (c : Code) (p : List Byte) : (s.raiseOutcome c p).attempt = 0 := rfl
@[simp] theorem State.raiseOutcome_op (c : Code) (p : List Byte) : (s.raiseOutcome c p).op = s.op := rfl
@[simp] theorem State.raiseOutcome_latchLen (c : Code) (p : List Byte) : (s.raiseOutcome c p).latchLen = s.latchLen := rfl
@[simp] theorem State.raiseOutcome_rxbuf (c : Code) (p : List Byte) : (s.raiseOutcome c p).rxbuf = [] := rfl
@[simp] theorem State.raiseOutcome_csum (c : Code) (p : List Byte) : (s.raiseOutcome c p).csum = s.csum := rfl
@[simp] theorem State.raiseOutcome_history (c : Code) (p : List Byte) : (s.raiseOutcome c p).history = s.history := rfl
@[simp] theorem State.raiseOutcome_agenda (c : Code) (p : List Byte) : (s.raiseOutcome c p).agenda = s.agenda := rfl
@[simp] theorem State.raiseOutcome_hostGot (c : Code) (p : List Byte) : (s.raiseOutcome c p).hostGot = s.hostGot := rfl
@[simp] theorem State.raiseOutcome_tick (c : Code) (p : List Byte) : (s.raiseOutcome c p).tick = s.tick := rfl
@[simp] theorem State.raiseOutcome_epoch (c : Code) (p : List Byte) : (s.raiseOutcome c p).epoch = s.epoch := rfl

@[simp] theorem State.setSession_addrHi (v : Session) : (s.setSession v).addrHi = s.addrHi := rfl
@[simp] theorem State.setSession_addrLo (v : Session) : (s.setSession v).addrLo = s.addrLo := rfl
@[simp] theorem State.setSession_len (v : Session) : (s.setSession v).len = s.len := rfl
@[simp] theorem State.setSession_procId (v : Session) : (s.setSession v).procId = s.procId := rfl
@[simp] theorem State.setSession_txlen (v : Session) : (s.setSession v).txlen = s.txlen := rfl
@[simp] theorem State.setSession_mem (v : Session) : (s.setSession v).mem = s.mem := rfl
@[simp] theorem State.setSession_cmd (v : Session) : (s.setSession v).cmd = s.cmd := rfl
@[simp] theorem State.setSession_done (v : Session) : (s.setSession v).done = s.done := rfl
@[simp] theorem State.setSession_ovr (v : Session) : (s.setSession v).ovr = s.ovr := rfl
@[simp] theorem State.setSession_session (v : Session) : (s.setSession v).session = v := rfl
@[simp] theorem State.setSession_result (v : Session) : (s.setSession v).result = s.result := rfl
@[simp] theorem State.setSession_rxlen (v : Session) : (s.setSession v).rxlen = s.rxlen := rfl
@[simp] theorem State.setSession_ctl (v : Session) : (s.setSession v).ctl = s.ctl := rfl
@[simp] theorem State.setSession_dec (v : Session) : (s.setSession v).dec = s.dec := rfl
@[simp] theorem State.setSession_attempt (v : Session) : (s.setSession v).attempt = s.attempt := rfl
@[simp] theorem State.setSession_op (v : Session) : (s.setSession v).op = s.op := rfl
@[simp] theorem State.setSession_latchLen (v : Session) : (s.setSession v).latchLen = s.latchLen := rfl
@[simp] theorem State.setSession_rxbuf (v : Session) : (s.setSession v).rxbuf = s.rxbuf := rfl
@[simp] theorem State.setSession_csum (v : Session) : (s.setSession v).csum = s.csum := rfl
@[simp] theorem State.setSession_history (v : Session) : (s.setSession v).history = s.history := rfl
@[simp] theorem State.setSession_agenda (v : Session) : (s.setSession v).agenda = s.agenda := rfl
@[simp] theorem State.setSession_hostGot (v : Session) : (s.setSession v).hostGot = s.hostGot := rfl
@[simp] theorem State.setSession_tick (v : Session) : (s.setSession v).tick = s.tick := rfl
@[simp] theorem State.setSession_epoch (v : Session) : (s.setSession v).epoch = s.epoch := rfl

@[simp] theorem State.preamble_addrHi (v : Byte) : (s.preamble v).addrHi = s.addrHi := rfl
@[simp] theorem State.preamble_addrLo (v : Byte) : (s.preamble v).addrLo = s.addrLo := rfl
@[simp] theorem State.preamble_len (v : Byte) : (s.preamble v).len = s.len := rfl
@[simp] theorem State.preamble_procId (v : Byte) : (s.preamble v).procId = s.procId := rfl
@[simp] theorem State.preamble_txlen (v : Byte) : (s.preamble v).txlen = s.txlen := rfl
@[simp] theorem State.preamble_mem (v : Byte) : (s.preamble v).mem = s.mem := rfl
@[simp] theorem State.preamble_cmd (v : Byte) : (s.preamble v).cmd = v := rfl
@[simp] theorem State.preamble_done (v : Byte) : (s.preamble v).done = false := rfl
@[simp] theorem State.preamble_ovr (v : Byte) : (s.preamble v).ovr = s.ovr := rfl
@[simp] theorem State.preamble_session (v : Byte) : (s.preamble v).session = s.session := rfl
@[simp] theorem State.preamble_result (v : Byte) : (s.preamble v).result = .none := rfl
@[simp] theorem State.preamble_rxlen (v : Byte) : (s.preamble v).rxlen = 0 := rfl
@[simp] theorem State.preamble_ctl (v : Byte) : (s.preamble v).ctl = s.ctl := rfl
@[simp] theorem State.preamble_dec (v : Byte) : (s.preamble v).dec = s.dec := rfl
@[simp] theorem State.preamble_attempt (v : Byte) : (s.preamble v).attempt = s.attempt := rfl
@[simp] theorem State.preamble_op (v : Byte) : (s.preamble v).op = s.op := rfl
@[simp] theorem State.preamble_latchLen (v : Byte) : (s.preamble v).latchLen = s.latchLen := rfl
@[simp] theorem State.preamble_rxbuf (v : Byte) : (s.preamble v).rxbuf = s.rxbuf := rfl
@[simp] theorem State.preamble_csum (v : Byte) : (s.preamble v).csum = s.csum := rfl
@[simp] theorem State.preamble_history (v : Byte) : (s.preamble v).history = s.history := rfl
@[simp] theorem State.preamble_agenda (v : Byte) : (s.preamble v).agenda = s.agenda := rfl
@[simp] theorem State.preamble_hostGot (v : Byte) : (s.preamble v).hostGot = s.hostGot := rfl
@[simp] theorem State.preamble_tick (v : Byte) : (s.preamble v).tick = s.tick := rfl
@[simp] theorem State.preamble_epoch (v : Byte) : (s.preamble v).epoch = s.epoch := rfl

@[simp] theorem State.setOvr_addrHi : (s.setOvr).addrHi = s.addrHi := rfl
@[simp] theorem State.setOvr_addrLo : (s.setOvr).addrLo = s.addrLo := rfl
@[simp] theorem State.setOvr_len : (s.setOvr).len = s.len := rfl
@[simp] theorem State.setOvr_procId : (s.setOvr).procId = s.procId := rfl
@[simp] theorem State.setOvr_txlen : (s.setOvr).txlen = s.txlen := rfl
@[simp] theorem State.setOvr_mem : (s.setOvr).mem = s.mem := rfl
@[simp] theorem State.setOvr_cmd : (s.setOvr).cmd = s.cmd := rfl
@[simp] theorem State.setOvr_done : (s.setOvr).done = s.done := rfl
@[simp] theorem State.setOvr_ovr : (s.setOvr).ovr = true := rfl
@[simp] theorem State.setOvr_session : (s.setOvr).session = s.session := rfl
@[simp] theorem State.setOvr_result : (s.setOvr).result = s.result := rfl
@[simp] theorem State.setOvr_rxlen : (s.setOvr).rxlen = s.rxlen := rfl
@[simp] theorem State.setOvr_ctl : (s.setOvr).ctl = s.ctl := rfl
@[simp] theorem State.setOvr_dec : (s.setOvr).dec = s.dec := rfl
@[simp] theorem State.setOvr_attempt : (s.setOvr).attempt = s.attempt := rfl
@[simp] theorem State.setOvr_op : (s.setOvr).op = s.op := rfl
@[simp] theorem State.setOvr_latchLen : (s.setOvr).latchLen = s.latchLen := rfl
@[simp] theorem State.setOvr_rxbuf : (s.setOvr).rxbuf = s.rxbuf := rfl
@[simp] theorem State.setOvr_csum : (s.setOvr).csum = s.csum := rfl
@[simp] theorem State.setOvr_history : (s.setOvr).history = s.history := rfl
@[simp] theorem State.setOvr_agenda : (s.setOvr).agenda = s.agenda := rfl
@[simp] theorem State.setOvr_hostGot : (s.setOvr).hostGot = s.hostGot := rfl
@[simp] theorem State.setOvr_tick : (s.setOvr).tick = s.tick := rfl
@[simp] theorem State.setOvr_epoch : (s.setOvr).epoch = s.epoch := rfl

@[simp] theorem State.clearFlags_addrHi (v : Byte) : (s.clearFlags v).addrHi = s.addrHi := rfl
@[simp] theorem State.clearFlags_addrLo (v : Byte) : (s.clearFlags v).addrLo = s.addrLo := rfl
@[simp] theorem State.clearFlags_len (v : Byte) : (s.clearFlags v).len = s.len := rfl
@[simp] theorem State.clearFlags_procId (v : Byte) : (s.clearFlags v).procId = s.procId := rfl
@[simp] theorem State.clearFlags_txlen (v : Byte) : (s.clearFlags v).txlen = s.txlen := rfl
@[simp] theorem State.clearFlags_mem (v : Byte) : (s.clearFlags v).mem = s.mem := rfl
@[simp] theorem State.clearFlags_cmd (v : Byte) : (s.clearFlags v).cmd = s.cmd := rfl
@[simp] theorem State.clearFlags_done (v : Byte) : (s.clearFlags v).done = (s.done && !v.getLsbD 1) := rfl
@[simp] theorem State.clearFlags_ovr (v : Byte) : (s.clearFlags v).ovr = (s.ovr && !v.getLsbD 2) := rfl
@[simp] theorem State.clearFlags_session (v : Byte) : (s.clearFlags v).session = s.session := rfl
@[simp] theorem State.clearFlags_result (v : Byte) : (s.clearFlags v).result = s.result := rfl
@[simp] theorem State.clearFlags_rxlen (v : Byte) : (s.clearFlags v).rxlen = s.rxlen := rfl
@[simp] theorem State.clearFlags_ctl (v : Byte) : (s.clearFlags v).ctl = s.ctl := rfl
@[simp] theorem State.clearFlags_dec (v : Byte) : (s.clearFlags v).dec = s.dec := rfl
@[simp] theorem State.clearFlags_attempt (v : Byte) : (s.clearFlags v).attempt = s.attempt := rfl
@[simp] theorem State.clearFlags_op (v : Byte) : (s.clearFlags v).op = s.op := rfl
@[simp] theorem State.clearFlags_latchLen (v : Byte) : (s.clearFlags v).latchLen = s.latchLen := rfl
@[simp] theorem State.clearFlags_rxbuf (v : Byte) : (s.clearFlags v).rxbuf = s.rxbuf := rfl
@[simp] theorem State.clearFlags_csum (v : Byte) : (s.clearFlags v).csum = s.csum := rfl
@[simp] theorem State.clearFlags_history (v : Byte) : (s.clearFlags v).history = s.history := rfl
@[simp] theorem State.clearFlags_agenda (v : Byte) : (s.clearFlags v).agenda = s.agenda := rfl
@[simp] theorem State.clearFlags_hostGot (v : Byte) : (s.clearFlags v).hostGot = s.hostGot := rfl
@[simp] theorem State.clearFlags_tick (v : Byte) : (s.clearFlags v).tick = s.tick := rfl
@[simp] theorem State.clearFlags_epoch (v : Byte) : (s.clearFlags v).epoch = s.epoch := rfl

@[simp] theorem State.startStage_addrHi (c : Ctl) : (s.startStage c).addrHi = s.addrHi := rfl
@[simp] theorem State.startStage_addrLo (c : Ctl) : (s.startStage c).addrLo = s.addrLo := rfl
@[simp] theorem State.startStage_len (c : Ctl) : (s.startStage c).len = s.len := rfl
@[simp] theorem State.startStage_procId (c : Ctl) : (s.startStage c).procId = s.procId := rfl
@[simp] theorem State.startStage_txlen (c : Ctl) : (s.startStage c).txlen = s.txlen := rfl
@[simp] theorem State.startStage_mem (c : Ctl) : (s.startStage c).mem = s.mem := rfl
@[simp] theorem State.startStage_cmd (c : Ctl) : (s.startStage c).cmd = s.cmd := rfl
@[simp] theorem State.startStage_done (c : Ctl) : (s.startStage c).done = s.done := rfl
@[simp] theorem State.startStage_ovr (c : Ctl) : (s.startStage c).ovr = s.ovr := rfl
@[simp] theorem State.startStage_session (c : Ctl) : (s.startStage c).session = s.session := rfl
@[simp] theorem State.startStage_result (c : Ctl) : (s.startStage c).result = s.result := rfl
@[simp] theorem State.startStage_rxlen (c : Ctl) : (s.startStage c).rxlen = s.rxlen := rfl
@[simp] theorem State.startStage_ctl (c : Ctl) : (s.startStage c).ctl = c := rfl
@[simp] theorem State.startStage_dec (c : Ctl) : (s.startStage c).dec = s.dec := rfl
@[simp] theorem State.startStage_attempt (c : Ctl) : (s.startStage c).attempt = 0 := rfl
@[simp] theorem State.startStage_op (c : Ctl) : (s.startStage c).op = s.op := rfl
@[simp] theorem State.startStage_latchLen (c : Ctl) : (s.startStage c).latchLen = s.latchLen := rfl
@[simp] theorem State.startStage_rxbuf (c : Ctl) : (s.startStage c).rxbuf = s.rxbuf := rfl
@[simp] theorem State.startStage_csum (c : Ctl) : (s.startStage c).csum = s.csum := rfl
@[simp] theorem State.startStage_history (c : Ctl) : (s.startStage c).history = s.history := rfl
@[simp] theorem State.startStage_agenda (c : Ctl) : (s.startStage c).agenda = s.agenda := rfl
@[simp] theorem State.startStage_hostGot (c : Ctl) : (s.startStage c).hostGot = s.hostGot := rfl
@[simp] theorem State.startStage_tick (c : Ctl) : (s.startStage c).tick = s.tick := rfl
@[simp] theorem State.startStage_epoch (c : Ctl) : (s.startStage c).epoch = s.epoch := rfl

@[simp] theorem State.startExchange_addrHi (o : Op) : (s.startExchange o).addrHi = s.addrHi := rfl
@[simp] theorem State.startExchange_addrLo (o : Op) : (s.startExchange o).addrLo = s.addrLo := rfl
@[simp] theorem State.startExchange_len (o : Op) : (s.startExchange o).len = s.len := rfl
@[simp] theorem State.startExchange_procId (o : Op) : (s.startExchange o).procId = s.procId := rfl
@[simp] theorem State.startExchange_txlen (o : Op) : (s.startExchange o).txlen = s.txlen := rfl
@[simp] theorem State.startExchange_mem (o : Op) : (s.startExchange o).mem = s.mem := rfl
@[simp] theorem State.startExchange_cmd (o : Op) : (s.startExchange o).cmd = s.cmd := rfl
@[simp] theorem State.startExchange_done (o : Op) : (s.startExchange o).done = s.done := rfl
@[simp] theorem State.startExchange_ovr (o : Op) : (s.startExchange o).ovr = s.ovr := rfl
@[simp] theorem State.startExchange_session (o : Op) : (s.startExchange o).session = s.session := rfl
@[simp] theorem State.startExchange_result (o : Op) : (s.startExchange o).result = s.result := rfl
@[simp] theorem State.startExchange_rxlen (o : Op) : (s.startExchange o).rxlen = s.rxlen := rfl
@[simp] theorem State.startExchange_ctl (o : Op) : (s.startExchange o).ctl = .xch := rfl
@[simp] theorem State.startExchange_dec (o : Op) : (s.startExchange o).dec = .awaitAck := rfl
@[simp] theorem State.startExchange_attempt (o : Op) : (s.startExchange o).attempt = 0 := rfl
@[simp] theorem State.startExchange_op (o : Op) : (s.startExchange o).op = o := rfl
@[simp] theorem State.startExchange_latchLen (o : Op) : (s.startExchange o).latchLen = s.latchLen := rfl
@[simp] theorem State.startExchange_rxbuf (o : Op) : (s.startExchange o).rxbuf = [] := rfl
@[simp] theorem State.startExchange_csum (o : Op) : (s.startExchange o).csum = s.csum := rfl
@[simp] theorem State.startExchange_history (o : Op) : (s.startExchange o).history = s.history := rfl
@[simp] theorem State.startExchange_agenda (o : Op) : (s.startExchange o).agenda = s.agenda := rfl
@[simp] theorem State.startExchange_hostGot (o : Op) : (s.startExchange o).hostGot = s.hostGot := rfl
@[simp] theorem State.startExchange_tick (o : Op) : (s.startExchange o).tick = s.tick := rfl
@[simp] theorem State.startExchange_epoch (o : Op) : (s.startExchange o).epoch = s.epoch := rfl

@[simp] theorem State.latch_addrHi (v : Byte) : (s.latch v).addrHi = s.addrHi := rfl
@[simp] theorem State.latch_addrLo (v : Byte) : (s.latch v).addrLo = s.addrLo := rfl
@[simp] theorem State.latch_len (v : Byte) : (s.latch v).len = s.len := rfl
@[simp] theorem State.latch_procId (v : Byte) : (s.latch v).procId = s.procId := rfl
@[simp] theorem State.latch_txlen (v : Byte) : (s.latch v).txlen = s.txlen := rfl
@[simp] theorem State.latch_mem (v : Byte) : (s.latch v).mem = s.mem := rfl
@[simp] theorem State.latch_cmd (v : Byte) : (s.latch v).cmd = s.cmd := rfl
@[simp] theorem State.latch_done (v : Byte) : (s.latch v).done = s.done := rfl
@[simp] theorem State.latch_ovr (v : Byte) : (s.latch v).ovr = s.ovr := rfl
@[simp] theorem State.latch_session (v : Byte) : (s.latch v).session = s.session := rfl
@[simp] theorem State.latch_result (v : Byte) : (s.latch v).result = s.result := rfl
@[simp] theorem State.latch_rxlen (v : Byte) : (s.latch v).rxlen = s.rxlen := rfl
@[simp] theorem State.latch_ctl (v : Byte) : (s.latch v).ctl = s.ctl := rfl
@[simp] theorem State.latch_dec (v : Byte) : (s.latch v).dec = s.dec := rfl
@[simp] theorem State.latch_attempt (v : Byte) : (s.latch v).attempt = s.attempt := rfl
@[simp] theorem State.latch_op (v : Byte) : (s.latch v).op = s.op := rfl
@[simp] theorem State.latch_latchLen (v : Byte) : (s.latch v).latchLen = v := rfl
@[simp] theorem State.latch_rxbuf (v : Byte) : (s.latch v).rxbuf = s.rxbuf := rfl
@[simp] theorem State.latch_csum (v : Byte) : (s.latch v).csum = s.csum := rfl
@[simp] theorem State.latch_history (v : Byte) : (s.latch v).history = s.history := rfl
@[simp] theorem State.latch_agenda (v : Byte) : (s.latch v).agenda = s.agenda := rfl
@[simp] theorem State.latch_hostGot (v : Byte) : (s.latch v).hostGot = s.hostGot := rfl
@[simp] theorem State.latch_tick (v : Byte) : (s.latch v).tick = s.tick := rfl
@[simp] theorem State.latch_epoch (v : Byte) : (s.latch v).epoch = s.epoch := rfl

@[simp] theorem State.readStep_addrHi (off : Off) : (s.readStep off).addrHi = s.addrHi := rfl
@[simp] theorem State.readStep_addrLo (off : Off) : (s.readStep off).addrLo = s.addrLo := rfl
@[simp] theorem State.readStep_len (off : Off) : (s.readStep off).len = s.len := rfl
@[simp] theorem State.readStep_procId (off : Off) : (s.readStep off).procId = s.procId := rfl
@[simp] theorem State.readStep_txlen (off : Off) : (s.readStep off).txlen = s.txlen := rfl
@[simp] theorem State.readStep_mem (off : Off) : (s.readStep off).mem = s.mem := rfl
@[simp] theorem State.readStep_cmd (off : Off) : (s.readStep off).cmd = s.cmd := rfl
@[simp] theorem State.readStep_done (off : Off) : (s.readStep off).done = s.done := rfl
@[simp] theorem State.readStep_ovr (off : Off) : (s.readStep off).ovr = s.ovr := rfl
@[simp] theorem State.readStep_session (off : Off) : (s.readStep off).session = s.session := rfl
@[simp] theorem State.readStep_result (off : Off) : (s.readStep off).result = s.result := rfl
@[simp] theorem State.readStep_rxlen (off : Off) : (s.readStep off).rxlen = s.rxlen := rfl
@[simp] theorem State.readStep_ctl (off : Off) : (s.readStep off).ctl = s.ctl := rfl
@[simp] theorem State.readStep_dec (off : Off) : (s.readStep off).dec = s.dec := rfl
@[simp] theorem State.readStep_attempt (off : Off) : (s.readStep off).attempt = s.attempt := rfl
@[simp] theorem State.readStep_op (off : Off) : (s.readStep off).op = s.op := rfl
@[simp] theorem State.readStep_latchLen (off : Off) : (s.readStep off).latchLen = s.latchLen := rfl
@[simp] theorem State.readStep_rxbuf (off : Off) : (s.readStep off).rxbuf = s.rxbuf := rfl
@[simp] theorem State.readStep_csum (off : Off) : (s.readStep off).csum = s.csum := rfl
@[simp] theorem State.readStep_history (off : Off) : (s.readStep off).history = s.history := rfl
@[simp] theorem State.readStep_agenda (off : Off) : (s.readStep off).agenda = s.agenda := rfl
@[simp] theorem State.readStep_hostGot (off : Off) : (s.readStep off).hostGot = s.hostGot ++ [s.hostRead off] := rfl
@[simp] theorem State.readStep_tick (off : Off) : (s.readStep off).tick = s.tick := rfl
@[simp] theorem State.readStep_epoch (off : Off) : (s.readStep off).epoch = s.epoch := rfl

@[simp] theorem State.setAgenda_addrHi (l : List Move) : (s.setAgenda l).addrHi = s.addrHi := rfl
@[simp] theorem State.setAgenda_addrLo (l : List Move) : (s.setAgenda l).addrLo = s.addrLo := rfl
@[simp] theorem State.setAgenda_len (l : List Move) : (s.setAgenda l).len = s.len := rfl
@[simp] theorem State.setAgenda_procId (l : List Move) : (s.setAgenda l).procId = s.procId := rfl
@[simp] theorem State.setAgenda_txlen (l : List Move) : (s.setAgenda l).txlen = s.txlen := rfl
@[simp] theorem State.setAgenda_mem (l : List Move) : (s.setAgenda l).mem = s.mem := rfl
@[simp] theorem State.setAgenda_cmd (l : List Move) : (s.setAgenda l).cmd = s.cmd := rfl
@[simp] theorem State.setAgenda_done (l : List Move) : (s.setAgenda l).done = s.done := rfl
@[simp] theorem State.setAgenda_ovr (l : List Move) : (s.setAgenda l).ovr = s.ovr := rfl
@[simp] theorem State.setAgenda_session (l : List Move) : (s.setAgenda l).session = s.session := rfl
@[simp] theorem State.setAgenda_result (l : List Move) : (s.setAgenda l).result = s.result := rfl
@[simp] theorem State.setAgenda_rxlen (l : List Move) : (s.setAgenda l).rxlen = s.rxlen := rfl
@[simp] theorem State.setAgenda_ctl (l : List Move) : (s.setAgenda l).ctl = s.ctl := rfl
@[simp] theorem State.setAgenda_dec (l : List Move) : (s.setAgenda l).dec = s.dec := rfl
@[simp] theorem State.setAgenda_attempt (l : List Move) : (s.setAgenda l).attempt = s.attempt := rfl
@[simp] theorem State.setAgenda_op (l : List Move) : (s.setAgenda l).op = s.op := rfl
@[simp] theorem State.setAgenda_latchLen (l : List Move) : (s.setAgenda l).latchLen = s.latchLen := rfl
@[simp] theorem State.setAgenda_rxbuf (l : List Move) : (s.setAgenda l).rxbuf = s.rxbuf := rfl
@[simp] theorem State.setAgenda_csum (l : List Move) : (s.setAgenda l).csum = s.csum := rfl
@[simp] theorem State.setAgenda_history (l : List Move) : (s.setAgenda l).history = s.history := rfl
@[simp] theorem State.setAgenda_agenda (l : List Move) : (s.setAgenda l).agenda = l := rfl
@[simp] theorem State.setAgenda_hostGot (l : List Move) : (s.setAgenda l).hostGot = s.hostGot := rfl
@[simp] theorem State.setAgenda_tick (l : List Move) : (s.setAgenda l).tick = s.tick := rfl
@[simp] theorem State.setAgenda_epoch (l : List Move) : (s.setAgenda l).epoch = s.epoch := rfl

@[simp] theorem State.tickUp_addrHi : (s.tickUp).addrHi = s.addrHi := rfl
@[simp] theorem State.tickUp_addrLo : (s.tickUp).addrLo = s.addrLo := rfl
@[simp] theorem State.tickUp_len : (s.tickUp).len = s.len := rfl
@[simp] theorem State.tickUp_procId : (s.tickUp).procId = s.procId := rfl
@[simp] theorem State.tickUp_txlen : (s.tickUp).txlen = s.txlen := rfl
@[simp] theorem State.tickUp_mem : (s.tickUp).mem = s.mem := rfl
@[simp] theorem State.tickUp_cmd : (s.tickUp).cmd = s.cmd := rfl
@[simp] theorem State.tickUp_done : (s.tickUp).done = s.done := rfl
@[simp] theorem State.tickUp_ovr : (s.tickUp).ovr = s.ovr := rfl
@[simp] theorem State.tickUp_session : (s.tickUp).session = s.session := rfl
@[simp] theorem State.tickUp_result : (s.tickUp).result = s.result := rfl
@[simp] theorem State.tickUp_rxlen : (s.tickUp).rxlen = s.rxlen := rfl
@[simp] theorem State.tickUp_ctl : (s.tickUp).ctl = s.ctl := rfl
@[simp] theorem State.tickUp_dec : (s.tickUp).dec = s.dec := rfl
@[simp] theorem State.tickUp_attempt : (s.tickUp).attempt = s.attempt := rfl
@[simp] theorem State.tickUp_op : (s.tickUp).op = s.op := rfl
@[simp] theorem State.tickUp_latchLen : (s.tickUp).latchLen = s.latchLen := rfl
@[simp] theorem State.tickUp_rxbuf : (s.tickUp).rxbuf = s.rxbuf := rfl
@[simp] theorem State.tickUp_csum : (s.tickUp).csum = s.csum := rfl
@[simp] theorem State.tickUp_history : (s.tickUp).history = s.history := rfl
@[simp] theorem State.tickUp_agenda : (s.tickUp).agenda = s.agenda := rfl
@[simp] theorem State.tickUp_hostGot : (s.tickUp).hostGot = s.hostGot := rfl
@[simp] theorem State.tickUp_tick : (s.tickUp).tick = s.tick + 1 := rfl
@[simp] theorem State.tickUp_epoch : (s.tickUp).epoch = s.epoch := rfl

@[simp] theorem State.truncate_addrHi (r : Response) : (s.truncate r).addrHi = s.addrHi := rfl
@[simp] theorem State.truncate_addrLo (r : Response) : (s.truncate r).addrLo = s.addrLo := rfl
@[simp] theorem State.truncate_len (r : Response) : (s.truncate r).len = s.len := rfl
@[simp] theorem State.truncate_procId (r : Response) : (s.truncate r).procId = s.procId := rfl
@[simp] theorem State.truncate_txlen (r : Response) : (s.truncate r).txlen = s.txlen := rfl
@[simp] theorem State.truncate_mem (r : Response) : (s.truncate r).mem = s.mem := rfl
@[simp] theorem State.truncate_cmd (r : Response) : (s.truncate r).cmd = s.cmd := rfl
@[simp] theorem State.truncate_done (r : Response) : (s.truncate r).done = s.done := rfl
@[simp] theorem State.truncate_ovr (r : Response) : (s.truncate r).ovr = s.ovr := rfl
@[simp] theorem State.truncate_session (r : Response) : (s.truncate r).session = s.session := rfl
@[simp] theorem State.truncate_result (r : Response) : (s.truncate r).result = s.result := rfl
@[simp] theorem State.truncate_rxlen (r : Response) : (s.truncate r).rxlen = s.rxlen := rfl
@[simp] theorem State.truncate_ctl (r : Response) : (s.truncate r).ctl = s.ctl := rfl
@[simp] theorem State.truncate_dec (r : Response) : (s.truncate r).dec = .done := rfl
@[simp] theorem State.truncate_attempt (r : Response) : (s.truncate r).attempt = s.attempt := rfl
@[simp] theorem State.truncate_op (r : Response) : (s.truncate r).op = s.op := rfl
@[simp] theorem State.truncate_latchLen (r : Response) : (s.truncate r).latchLen = s.latchLen := rfl
@[simp] theorem State.truncate_rxbuf (r : Response) : (s.truncate r).rxbuf = responseBytes r := rfl
@[simp] theorem State.truncate_csum (r : Response) : (s.truncate r).csum = csumAfter s.csum (responseBytes r) := rfl
@[simp] theorem State.truncate_history (r : Response) : (s.truncate r).history = s.history := rfl
@[simp] theorem State.truncate_agenda (r : Response) : (s.truncate r).agenda = s.agenda := rfl
@[simp] theorem State.truncate_hostGot (r : Response) : (s.truncate r).hostGot = s.hostGot := rfl
@[simp] theorem State.truncate_tick (r : Response) : (s.truncate r).tick = s.tick := rfl
@[simp] theorem State.truncate_epoch (r : Response) : (s.truncate r).epoch = s.epoch := rfl

@[simp] theorem State.pollRead_addrHi (c : List Byte) : (s.pollRead c).addrHi = s.addrHi := rfl
@[simp] theorem State.pollRead_addrLo (c : List Byte) : (s.pollRead c).addrLo = s.addrLo := rfl
@[simp] theorem State.pollRead_len (c : List Byte) : (s.pollRead c).len = s.len := rfl
@[simp] theorem State.pollRead_procId (c : List Byte) : (s.pollRead c).procId = s.procId := rfl
@[simp] theorem State.pollRead_txlen (c : List Byte) : (s.pollRead c).txlen = s.txlen := rfl
@[simp] theorem State.pollRead_mem (c : List Byte) : (s.pollRead c).mem = s.mem := rfl
@[simp] theorem State.pollRead_cmd (c : List Byte) : (s.pollRead c).cmd = s.cmd := rfl
@[simp] theorem State.pollRead_done (c : List Byte) : (s.pollRead c).done = s.done := rfl
@[simp] theorem State.pollRead_ovr (c : List Byte) : (s.pollRead c).ovr = s.ovr := rfl
@[simp] theorem State.pollRead_session (c : List Byte) : (s.pollRead c).session = s.session := rfl
@[simp] theorem State.pollRead_result (c : List Byte) : (s.pollRead c).result = s.result := rfl
@[simp] theorem State.pollRead_rxlen (c : List Byte) : (s.pollRead c).rxlen = s.rxlen := rfl
@[simp] theorem State.pollRead_ctl (c : List Byte) : (s.pollRead c).ctl = s.ctl := rfl
@[simp] theorem State.pollRead_dec (c : List Byte) : (s.pollRead c).dec = s.dec := rfl
@[simp] theorem State.pollRead_attempt (c : List Byte) : (s.pollRead c).attempt = s.attempt + 1 := rfl
@[simp] theorem State.pollRead_op (c : List Byte) : (s.pollRead c).op = s.op := rfl
@[simp] theorem State.pollRead_latchLen (c : List Byte) : (s.pollRead c).latchLen = s.latchLen := rfl
@[simp] theorem State.pollRead_rxbuf (c : List Byte) : (s.pollRead c).rxbuf = s.rxbuf := rfl
@[simp] theorem State.pollRead_csum (c : List Byte) : (s.pollRead c).csum = s.csum := rfl
@[simp] theorem State.pollRead_history (c : List Byte) : (s.pollRead c).history = s.history ++ [.rx c] := rfl
@[simp] theorem State.pollRead_agenda (c : List Byte) : (s.pollRead c).agenda = s.agenda := rfl
@[simp] theorem State.pollRead_hostGot (c : List Byte) : (s.pollRead c).hostGot = s.hostGot := rfl
@[simp] theorem State.pollRead_tick (c : List Byte) : (s.pollRead c).tick = s.tick + 1 := rfl
@[simp] theorem State.pollRead_epoch (c : List Byte) : (s.pollRead c).epoch = s.epoch := rfl

@[simp] theorem State.feed_addrHi (c : List Byte) : (s.feed c).addrHi = s.addrHi := rfl
@[simp] theorem State.feed_addrLo (c : List Byte) : (s.feed c).addrLo = s.addrLo := rfl
@[simp] theorem State.feed_len (c : List Byte) : (s.feed c).len = s.len := rfl
@[simp] theorem State.feed_procId (c : List Byte) : (s.feed c).procId = s.procId := rfl
@[simp] theorem State.feed_txlen (c : List Byte) : (s.feed c).txlen = s.txlen := rfl
@[simp] theorem State.feed_mem (c : List Byte) : (s.feed c).mem = s.mem := rfl
@[simp] theorem State.feed_cmd (c : List Byte) : (s.feed c).cmd = s.cmd := rfl
@[simp] theorem State.feed_done (c : List Byte) : (s.feed c).done = s.done := rfl
@[simp] theorem State.feed_ovr (c : List Byte) : (s.feed c).ovr = s.ovr := rfl
@[simp] theorem State.feed_session (c : List Byte) : (s.feed c).session = s.session := rfl
@[simp] theorem State.feed_result (c : List Byte) : (s.feed c).result = s.result := rfl
@[simp] theorem State.feed_rxlen (c : List Byte) : (s.feed c).rxlen = s.rxlen := rfl
@[simp] theorem State.feed_ctl (c : List Byte) : (s.feed c).ctl = s.ctl := rfl
@[simp] theorem State.feed_dec (c : List Byte) : (s.feed c).dec = advanceDec s.dec (appendRx s.rxbuf c) := rfl
@[simp] theorem State.feed_attempt (c : List Byte) : (s.feed c).attempt = s.attempt := rfl
@[simp] theorem State.feed_op (c : List Byte) : (s.feed c).op = s.op := rfl
@[simp] theorem State.feed_latchLen (c : List Byte) : (s.feed c).latchLen = s.latchLen := rfl
@[simp] theorem State.feed_rxbuf (c : List Byte) : (s.feed c).rxbuf = appendRx s.rxbuf c := rfl
@[simp] theorem State.feed_csum (c : List Byte) : (s.feed c).csum = s.csum := rfl
@[simp] theorem State.feed_history (c : List Byte) : (s.feed c).history = s.history := rfl
@[simp] theorem State.feed_agenda (c : List Byte) : (s.feed c).agenda = s.agenda := rfl
@[simp] theorem State.feed_hostGot (c : List Byte) : (s.feed c).hostGot = s.hostGot := rfl
@[simp] theorem State.feed_tick (c : List Byte) : (s.feed c).tick = s.tick := rfl
@[simp] theorem State.feed_epoch (c : List Byte) : (s.feed c).epoch = s.epoch := rfl

end Sys2Proof.Machine
end

