-- ==== Sys2Proof/Laws/Exec.lean ====
section
/-! SUPPORT. What each meaning answers, once: the outcome posted, the dispatch by `BUSY`, and the received rows in and out
of their state. -/

namespace Sys2Proof.Machine

@[simp] theorem State.busy_eq_false (s : State) : s.busy = false ↔ s.ctl = .idle := by simp [State.busy]

@[simp] theorem State.busy_eq_true (s : State) : s.busy = true ↔ s.ctl ≠ .idle := by simp [State.busy]

@[simp] theorem State.inXch_eq (s : State) (d : Dec) : s.inXch d = true ↔ s.ctl = .xch ∧ s.dec = d := by
  simp [State.inXch]

/-- `COMPLETE_XCH` is the completion action on the outcome's code and payload (R235). -/
theorem State.completeXch_eq (s : State) (out : DecOutcome) :
    s.completeXch out = s.raiseOutcome (refPost s.op s.latchLen out).1 (refPost s.op s.latchLen out).2 := by
  cases out <;> simp only [State.completeXch, refPost]
  split <;> rfl

theorem State.dispatch_idle (s : State) (v : Byte) (f : State → State) (h : s.ctl = .idle) :
    s.dispatch v f = f (s.preamble v) := by
  simp [State.dispatch, (State.busy_eq_false s).2 h]

theorem State.dispatch_busy (s : State) (v : Byte) (f : State → State) (h : s.ctl ≠ .idle) :
    s.dispatch v f = s.setOvr := by
  simp [State.dispatch, (State.busy_eq_true s).2 h]

/-- The command a byte decodes to, as one dispatch (R220). -/
def acceptOf (v : Byte) : State → State :=
  if v = 0x01#8 then State.acceptRead
  else if v = 0x02#8 then State.acceptWrite
  else if v = 0x07#8 then State.acceptRpc
  else if v = 0x10#8 then State.acceptHandshake
  else if v = 0x11#8 then State.acceptClose
  else State.acceptReserved

theorem exec_command (s : State) (v : Byte) : exec (decodeCommand v) s = .next (s.dispatch v (acceptOf v)) := by
  unfold decodeCommand acceptOf
  repeat' split
  all_goals subst_vars; rfl

/-- What a dispatched command does: it completes at once with a code, having sent nothing or EOT; or it clears, sends one
telegram and waits. -/
theorem acceptOf_cases (v : Byte) (s : State) :
    (∃ code, acceptOf v s = s.raiseOutcome code []) ∨
    acceptOf v s = s.rxClear.raiseOutcome .invalidLength [] ∨
    (v = 0x11#8 ∧ acceptOf v s = ((s.txWrite encEot).setSession .uninitialized).raiseOutcome .ok []) ∨
    (v = 0x10#8 ∧ acceptOf v s = ((s.rxClear.txWrite encEot).setSession .handshaking).startStage .hsEnq) ∨
    ((v = 0x02#8 ∨ v = 0x07#8) ∧ s.session = .ready ∧ ∃ t o, acceptOf v s = (s.rxClear.sendRequest t).startExchange o) ∨
    (v = 0x01#8 ∧ s.session = .ready ∧ ∃ t, acceptOf v s = ((s.rxClear.sendRequest t).startExchange .read).latch s.len) := by
  unfold acceptOf
  split
  · unfold State.acceptRead
    split
    · exact .inr (.inr (.inr (.inr (.inr ⟨‹_›, ‹_›, _, rfl⟩))))
    · exact .inl ⟨_, rfl⟩
  split
  · unfold State.acceptWrite
    split
    · split
      · exact .inr (.inr (.inr (.inr (.inl ⟨.inl ‹_›, ‹_›, _, _, rfl⟩))))
      · exact .inr (.inl rfl)
    · exact .inl ⟨_, rfl⟩
  split
  · unfold State.acceptRpc
    split
    · split
      · exact .inr (.inr (.inr (.inr (.inl ⟨.inr ‹_›, ‹_›, _, _, rfl⟩))))
      · exact .inr (.inl rfl)
    · exact .inl ⟨_, rfl⟩
  split
  · exact .inr (.inr (.inr (.inl ⟨‹_›, rfl⟩)))
  split
  · exact .inr (.inr (.inl ⟨‹_›, rfl⟩))
  · exact .inl ⟨_, rfl⟩

/-- A complete response in its state posts its one outcome, over the truncated buffer (R191 to R194). -/
theorem State.onResponse_eq (s : State) (r : Response) :
    s.onResponse r = (s.truncate r).completeXch (responseOutcome r) := by
  unfold State.onResponse responseOutcome
  split
  · rfl
  split <;> rfl

/-- A complete response in its state: one of three outcomes, over the truncated buffer (R191 to R194). -/
theorem State.onResponse_cases (s : State) (r : Response) : ∃ out : DecOutcome,
    (out = .checksumError (responsePayload r) ∨ out = .deviceError (responsePayload r) ∨
      out = .success (responsePayload r)) ∧ s.onResponse r = (s.truncate r).completeXch out := by
  refine ⟨responseOutcome r, ?_, s.onResponse_eq r⟩
  unfold responseOutcome
  split
  · exact .inl rfl
  split
  · exact .inr (.inl rfl)
  · exact .inr (.inr rfl)

/-- An instruction leaves memory as it was, or posts its bytes from `RXDATA[0]` up (R276). -/
theorem exec_mem (i : Instr) (s t : State) (h : exec i s = .next t) :
    t.mem = s.mem ∨ t.mem = Memory.setList s.mem rxBase (s.posts i) := by
  have command : ∀ v, exec (decodeCommand v) s = .next t → t.mem = s.mem := by
    intro v hv
    rw [exec_command, Host.Outcome.next.injEq] at hv
    subst hv
    by_cases hi : s.ctl = .idle
    · rw [State.dispatch_idle _ _ _ hi]
      obtain ⟨_, h⟩ | h | ⟨-, h⟩ | ⟨-, h⟩ | ⟨-, -, _, _, h⟩ | ⟨-, -, _, h⟩ := acceptOf_cases v (s.preamble v) <;>
        rw [h] <;> rfl
    · rw [State.dispatch_busy _ _ _ hi]; rfl
  cases i with
  | read => exact .inl (command 0x01#8 h)
  | write => exact .inl (command 0x02#8 h)
  | rpc => exact .inl (command 0x07#8 h)
  | handshake => exact .inl (command 0x10#8 h)
  | close => exact .inl (command 0x11#8 h)
  | reserved v =>
    have h : Host.Outcome.next (s.dispatch v State.acceptReserved) = .next t := h
    cases h
    by_cases hi : s.ctl = .idle
    · rw [State.dispatch_idle _ _ _ hi]; exact .inl rfl
    · rw [State.dispatch_busy _ _ _ hi]; exact .inl rfl
  | txReadReq => cases h; exact .inl rfl
  | txEot => cases h; exact .inl rfl
  | txStartVs2 => cases h; exact .inl rfl
  | txWriteReq => cases h; split <;> exact .inl rfl
  | txRpcReq => cases h; split <;> exact .inl rfl
  | rxEnq => cases h; split <;> exact .inl rfl
  | rxHsAck => cases h; split <;> exact .inl rfl
  | rxNack => cases h; split <;> exact .inl rfl
  | rxFraming => cases h; split <;> exact .inl rfl
  | rxResponse r => cases h; split <;> [exact .inr (by rw [State.onResponse_eq, State.completeXch_eq]; rfl); exact .inl rfl]
  | rxResponseChecksumError r => cases h; split <;> [exact .inr rfl; exact .inl rfl]
  | rxResponseDeviceError r => cases h; split <;> [exact .inr rfl; exact .inl rfl]
  | rxResponseSuccess r =>
    cases h
    split <;> [exact .inr (by rw [State.onSuccess, State.completeXch_eq]; rfl); exact .inl rfl]

/-- No instruction stops the machine. -/
theorem exec_answers (i : Instr) (s : State) : ∃ t, exec i s = .next t := by
  cases i <;> exact ⟨_, rfl⟩

end Sys2Proof.Machine
end

