-- ==== Sys2Proof/Laws/Memory.lean ====
section
/-! SUPPORT. Memory: a read after a write, writes to other places, the canonical form kept, and a run of bytes. -/

namespace Sys2Proof.Machine

@[simp] theorem Memory.get_set_same (m : List Host.Cell) (a : Nat) (v : Byte) : Memory.get (Memory.set m a v) a = some v := by
  induction m with
  | nil => simp [Memory.set, Memory.get]
  | cons c m ih =>
    obtain ⟨b, w⟩ := c
    simp only [Memory.set]
    split
    · simp [Memory.get]
    · split
      · simp [Memory.get]
      · simp [Memory.get, *]

theorem Memory.get_set_other (m : List Host.Cell) (a b : Nat) (v : Byte) (h : b ≠ a) :
    Memory.get (Memory.set m a v) b = Memory.get m b := by
  induction m with
  | nil => simp [Memory.set, Memory.get, h]
  | cons c m ih =>
    obtain ⟨k, w⟩ := c
    simp only [Memory.set]
    split
    · simp [Memory.get, h]
    · split
      · subst_vars; simp [Memory.get, h]
      · simp [Memory.get, ih]

/-- Successive bytes written leave every address outside them as it was. -/
theorem Memory.get_setList_outside (p : List Byte) : ∀ (m : List Host.Cell) (a b : Nat), b < a ∨ a + p.length ≤ b →
    Memory.get (Memory.setList m a p) b = Memory.get m b := by
  induction p with
  | nil => intros; rfl
  | cons v p ih =>
    intro m a b h
    simp only [Memory.setList, List.length_cons] at h ⊢
    rw [ih _ _ _ (by omega), Memory.get_set_other _ _ _ _ (by omega)]

/-- Successive bytes written are read back at their addresses. -/
theorem Memory.get_setList_inside (p : List Byte) : ∀ (m : List Host.Cell) (a i : Nat) (h : i < p.length),
    Memory.get (Memory.setList m a p) (a + i) = some p[i] := by
  induction p with
  | nil => intro m a i h; simp at h
  | cons v p ih =>
    intro m a i h
    cases i with
    | zero => simp [Memory.setList, Memory.get_setList_outside]
    | succ i =>
      have := ih (Memory.set m a v) (a + 1) i (by simpa using h)
      simpa [Memory.setList, Nat.add_assoc, Nat.add_comm 1 i] using this

/-- The canonical form, said of the tail: every listed address is above the head's. -/
theorem Memory.wf_cons (a : Nat) (v : Byte) (m : List Host.Cell) :
    Memory.wf ((a, v) :: m) = true ↔ (∀ c ∈ m, a < c.1) ∧ Memory.wf m = true := by
  induction m generalizing a v with
  | nil => simp [Memory.wf]
  | cons c m ih =>
    obtain ⟨b, w⟩ := c
    simp only [Memory.wf, Bool.and_eq_true, decide_eq_true_eq, List.mem_cons, forall_eq_or_imp]
    constructor
    · rintro ⟨h, hm⟩
      exact ⟨⟨h, fun c hc => Nat.lt_trans h (((ih b w).1 hm).1 c hc)⟩, hm⟩
    · rintro ⟨⟨h, -⟩, hm⟩
      exact ⟨h, hm⟩

theorem Memory.mem_set (m : List Host.Cell) (a : Nat) (v : Byte) (c : Host.Cell) (h : c ∈ Memory.set m a v) :
    c = (a, v) ∨ c ∈ m := by
  induction m with
  | nil => simpa [Memory.set] using h
  | cons d m ih =>
    obtain ⟨b, w⟩ := d
    simp only [Memory.set] at h
    split at h
    · simpa using h
    · split at h
      · simp only [List.mem_cons] at h ⊢; tauto
      · simp only [List.mem_cons] at h ⊢; tauto

/-- A write keeps the canonical form. -/
theorem Memory.set_wf (m : List Host.Cell) (a : Nat) (v : Byte) (h : Memory.wf m = true) :
    Memory.wf (Memory.set m a v) = true := by
  induction m with
  | nil => rfl
  | cons c m ih =>
    obtain ⟨b, w⟩ := c
    have hc := (Memory.wf_cons b w m).1 h
    simp only [Memory.set]
    split
    · simp [Memory.wf, *]
    · split
      · subst_vars; exact (Memory.wf_cons _ _ _).2 hc
      · refine (Memory.wf_cons _ _ _).2 ⟨fun c hm => ?_, ih hc.2⟩
        obtain rfl | hm := Memory.mem_set _ _ _ _ hm
        · simp; omega
        · exact hc.1 c hm

/-- A run of writes keeps the canonical form. -/
theorem Memory.setList_wf (p : List Byte) : ∀ (m : List Host.Cell) (a : Nat), Memory.wf m = true →
    Memory.wf (Memory.setList m a p) = true := by
  induction p with
  | nil => intro m a h; exact h
  | cons v p ih => intro m a h; exact ih _ _ (Memory.set_wf m a v h)

/-- Two memories in canonical form that list the same bytes are equal. -/
theorem Memory.ext_get : ∀ (m n : List Host.Cell), Memory.wf m = true → Memory.wf n = true →
    (∀ a, Memory.get m a = Memory.get n a) → m = n := by
  have lower : ∀ (m : List Host.Cell) (a : Nat), (∀ c ∈ m, a < c.1) → Memory.get m a = none := by
    intro m a h
    induction m with
    | nil => rfl
    | cons c m ih =>
      obtain ⟨b, w⟩ := c
      have := h (b, w) (by simp)
      simp only [Memory.get]
      rw [if_neg (by simp at this; omega)]
      exact ih fun c hc => h c (by simp [hc])
  intro m
  induction m with
  | nil =>
    intro n _ _ h
    cases n with
    | nil => rfl
    | cons c n => simpa [Memory.get] using h c.1
  | cons c m ih =>
    intro n hm hn h
    obtain ⟨b, w⟩ := c
    obtain ⟨hb, hm'⟩ := (Memory.wf_cons b w m).1 hm
    cases n with
    | nil => simpa [Memory.get] using h b
    | cons d n =>
      obtain ⟨k, x⟩ := d
      obtain ⟨hk, hn'⟩ := (Memory.wf_cons k x n).1 hn
      obtain hlt | rfl | hlt := Nat.lt_trichotomy b k
      · have := h b
        rw [lower ((k, x) :: n) b (by
          intro c hc
          rcases List.mem_cons.1 hc with rfl | hc
          · exact hlt
          · exact Nat.lt_trans hlt (hk c hc))] at this
        simp [Memory.get] at this
      · have hw := h b
        simp only [Memory.get, if_true, Option.some.injEq] at hw
        subst hw
        refine congrArg _ (ih n hm' hn' fun a => ?_)
        have := h a
        simp only [Memory.get] at this
        by_cases hab : a = b
        · subst hab; rw [lower m a hb, lower n a hk]
        · simpa [hab] using this
      · have := h k
        rw [lower ((b, w) :: m) k (by
          intro c hc
          rcases List.mem_cons.1 hc with rfl | hc
          · exact hlt
          · exact Nat.lt_trans hlt (hb c hc))] at this
        simp [Memory.get] at this

end Sys2Proof.Machine
end

