-- ==== Sys2Proof/Laws/Step.lean ====
section
/-! SUPPORT. What a step can do, said once: the moves, the polls, and which instruction a poll recognises. -/

namespace Sys2Proof.Machine

/-- The instruction a poll recognises, with what its bytes are (R185, R189, R191, R225, R226). -/
theorem State.recognise_some (u : State) (c : List Byte) (i : Instr) (h : u.recognise c = some i) :
    (u.ctl = .hsEnq ∧ i = .rxEnq ∧ 0x05#8 ∈ c) ∨
    (u.ctl = .hsStart ∧ i = .rxHsAck ∧ 0x06#8 ∈ c) ∨
    (u.ctl = .xch ∧ u.dec = .awaitAck ∧ i = .rxNack ∧ u.rxbuf ≠ [] ∧ byteAt u.rxbuf 0 = 0x15#8) ∨
    (u.ctl = .xch ∧ u.dec = .awaitStx ∧ i = .rxFraming (byteAt u.rxbuf 1) (byteAt u.rxbuf 2) ∧ 2 < u.rxbuf.length ∧
      byteAt u.rxbuf 1 ≠ 0x41#8) ∨
    (u.ctl = .xch ∧ u.dec = .awaitBody ∧ ∃ r rest, splitResponse u.rxbuf = some (r, rest) ∧ i = .rxResponse r) := by
  unfold State.recognise State.wirePort State.wireBytes at h
  cases hc : u.ctl <;> simp only [hc] at h
  · simp at h
  · by_cases he : 0x05#8 ∈ c
    · rw [if_neg (by simp : ¬(_ : Ctl) = .xch), decode, if_pos he] at h
      exact .inl ⟨rfl, by simpa using h.symm, he⟩
    · rw [if_neg (by simp : ¬(_ : Ctl) = .xch), decode, if_neg he] at h
      simp at h
  · by_cases he : 0x06#8 ∈ c
    · rw [if_neg (by simp : ¬(_ : Ctl) = .xch), decode, if_pos he] at h
      exact .inr (.inl ⟨rfl, by simpa using h.symm, he⟩)
    · rw [if_neg (by simp : ¬(_ : Ctl) = .xch), decode, if_neg he] at h
      simp at h
  · cases hd : u.dec <;> simp only [hd, if_true, decode] at h
    · by_cases h0 : u.rxbuf = [] <;> simp only [h0, if_true, if_false] at h
      · simp at h
      · by_cases h1 : byteAt u.rxbuf 0 = 0x06#8 <;> simp only [h1, if_true, if_false] at h
        · simp at h
        · by_cases h2 : byteAt u.rxbuf 0 = 0x15#8 <;> simp only [h2, if_true, if_false] at h
          · exact .inr (.inr (.inl ⟨rfl, rfl, by simpa using h.symm, h0, h2⟩))
          · simp at h
    · by_cases h0 : u.rxbuf.length ≤ 2 <;> simp only [h0, if_true, if_false] at h
      · simp at h
      · by_cases h1 : byteAt u.rxbuf 1 = 0x41#8 <;> simp only [h1, if_true, if_false] at h
        · simp at h
        · exact .inr (.inr (.inr (.inl ⟨rfl, rfl, by simpa using h.symm, by omega, h1⟩)))
    · cases hs : splitResponse u.rxbuf with
      | none => simp [hs] at h
      | some q =>
        obtain ⟨r, rest⟩ := q
        simp only [hs, Option.some.injEq] at h
        exact .inr (.inr (.inr (.inr ⟨rfl, rfl, r, rest, rfl, h.symm⟩)))
    · simp at h

@[simp] theorem State.polled_ctl (s : State) (c : List Byte) : (s.polled c).ctl = s.ctl := by
  unfold State.polled; split <;> simp [*]
@[simp] theorem State.polled_attempt (s : State) (c : List Byte) : (s.polled c).attempt = s.attempt + 1 := by
  unfold State.polled; split <;> rfl
@[simp] theorem State.polled_session (s : State) (c : List Byte) : (s.polled c).session = s.session := by
  unfold State.polled; split <;> rfl
@[simp] theorem State.polled_history (s : State) (c : List Byte) : (s.polled c).history = s.history ++ [.rx c] := by
  unfold State.polled; split <;> rfl
@[simp] theorem State.polled_mem (s : State) (c : List Byte) : (s.polled c).mem = s.mem := by
  unfold State.polled; split <;> rfl
@[simp] theorem State.polled_ovr (s : State) (c : List Byte) : (s.polled c).ovr = s.ovr := by
  unfold State.polled; split <;> rfl
@[simp] theorem State.polled_result (s : State) (c : List Byte) : (s.polled c).result = s.result := by
  unfold State.polled; split <;> rfl
@[simp] theorem State.polled_rxlen (s : State) (c : List Byte) : (s.polled c).rxlen = s.rxlen := by
  unfold State.polled; split <;> rfl
@[simp] theorem State.polled_agenda (s : State) (c : List Byte) : (s.polled c).agenda = s.agenda := by
  unfold State.polled; split <;> rfl

/-- The state a recognised row is run in answers this (R185, R189, R191, R225, R226). -/
theorem State.exec_recognised (u t : State) (c : List Byte) (i : Instr) (h : u.recognise c = some i)
    (ht : exec i u = .next t) :
    (u.ctl = .hsEnq ∧ 0x05#8 ∈ c ∧ t = (u.rxClear.txWrite encStart).startStage .hsStart) ∨
    (u.ctl = .hsStart ∧ 0x06#8 ∈ c ∧ t = (u.setSession .ready).raiseOutcome .ok []) ∨
    (u.ctl = .xch ∧ (t = u.raiseOutcome .nack [] ∨ t = u.raiseOutcome .framingError [] ∨
      ∃ r out, r.body.length ≤ 255 ∧
        (out = .checksumError (responsePayload r) ∨ out = .deviceError (responsePayload r) ∨
          out = .success (responsePayload r)) ∧ t = (u.truncate r).completeXch out)) := by
  obtain ⟨hc, rfl, hm⟩ | ⟨hc, rfl, hm⟩ | ⟨hc, hd, rfl, -⟩ | ⟨hc, hd, rfl, -⟩ | ⟨hc, hd, r, rest, hr, rfl⟩ :=
    u.recognise_some c i h
  · have : t = u.onEnq := by simpa [exec, execRxEnq, hc] using ht.symm
    exact .inl ⟨hc, hm, this⟩
  · have : t = u.onHsAck := by simpa [exec, execRxHsAck, hc] using ht.symm
    exact .inr (.inl ⟨hc, hm, this⟩)
  · have : t = u.completeXch .nack := by simpa [exec, execRxNack, hc, hd, State.inXch] using ht.symm
    exact .inr (.inr ⟨hc, .inl this⟩)
  · have : t = u.completeXch .framingError := by simpa [exec, execRxFraming, hc, hd, State.inXch] using ht.symm
    exact .inr (.inr ⟨hc, .inr (.inl this)⟩)
  · have : t = u.onResponse r := by simpa [exec, execRxResponse, hc, hd, State.inXch] using ht.symm
    obtain ⟨out, ho, he⟩ := u.onResponse_cases r
    have hl := (splitResponse_some _ _ _ hr).2.2.2.2.1
    exact .inr (.inr ⟨hc, .inr (.inr ⟨r, out, by have := (byteAt u.rxbuf 2).isLt; omega, ho, this.trans he⟩)⟩)

/-- What one step can do: every invariant is derived from this. -/
theorem step_cases (s t : State) (h : step s = .next t) :
    (s.ctl = .idle ∧ s.agenda = [] ∧ t = s) ∨
    (∃ off rest, s.agenda = .read off :: rest ∧ t = (s.setAgenda rest).readStep off) ∨
    (∃ rest, s.agenda = .wait :: rest ∧ t = s.waitStep rest) ∨
    (∃ rest, s.agenda = .reset :: rest ∧ t = (s.setAgenda rest).resetEvent) ∨
    (∃ off v rest, s.agenda = .write off v :: rest ∧ off ≠ offCmd ∧ t = (s.setAgenda rest).hostWrite off v) ∨
    (∃ v rest, s.agenda = .write offCmd v :: rest ∧ t = (s.setAgenda rest).tickUp.dispatch v (acceptOf v)) ∨
    (∃ c rest, s.agenda = .poll c :: rest ∧ s.ctl = .idle ∧ t = s.setAgenda rest) ∨
    (∃ c rest, (s.agenda = .poll c :: rest ∨ (s.agenda = [] ∧ rest = [])) ∧ s.ctl ≠ .idle ∧
      ((∃ i, ((s.setAgenda rest).polled c).recognise c = some i ∧ exec i ((s.setAgenda rest).polled c) = .next t) ∨
        (((s.setAgenda rest).polled c).recognise c = none ∧ t = ((s.setAgenda rest).polled c).pollMiss))) := by
  have poll : ∀ (u : State) (c : List Byte), (match u.fetchPoll c with
      | (some i, t) => exec i t
      | (none, t) => Host.Outcome.next t) = .next t → (u.ctl = .idle ∧ t = u) ∨ (u.ctl ≠ .idle ∧
        ((∃ i, (u.polled c).recognise c = some i ∧ exec i (u.polled c) = .next t) ∨
          ((u.polled c).recognise c = none ∧ t = (u.polled c).pollMiss))) := by
    intro u c hu
    unfold State.fetchPoll at hu
    by_cases hi : u.ctl = .idle
    · left; simpa [hi, eq_comm] using hu
    · right
      cases hr : (u.polled c).recognise c with
      | none => simp [hi, hr] at hu; exact ⟨hi, .inr ⟨rfl, hu.symm⟩⟩
      | some i => simp [hi, hr] at hu; exact ⟨hi, .inl ⟨i, rfl, hu⟩⟩
  rcases ha : s.agenda with _ | ⟨m, rest⟩
  · rw [step, State.fetch, ha] at h
    obtain ⟨hi, rfl⟩ | ⟨hi, hp⟩ := poll s _ h
    · exact .inl ⟨hi, rfl, rfl⟩
    · have hs : s.setAgenda [] = s := by rw [State.setAgenda, ← ha]
      refine .inr (.inr (.inr (.inr (.inr (.inr (.inr ⟨Config.rxDraw s.tick, [], .inr ⟨rfl, rfl⟩, hi, ?_⟩))))))
      rwa [hs]
  · rw [step, State.fetch, ha] at h
    cases m with
    | write off v =>
      simp only [State.fetchWrite] at h
      by_cases ho : off = offCmd
      · subst ho
        simp only [if_true, exec_command, Host.Outcome.next.injEq] at h
        exact .inr (.inr (.inr (.inr (.inr (.inl ⟨_, _, rfl, h.symm⟩)))))
      · simp only [ho, if_false, Host.Outcome.next.injEq] at h
        exact .inr (.inr (.inr (.inr (.inl ⟨_, _, _, rfl, ho, h.symm⟩))))
    | read off => exact .inr (.inl ⟨_, _, rfl, by simpa using h.symm⟩)
    | wait => exact .inr (.inr (.inl ⟨_, rfl, by simpa using h.symm⟩))
    | poll c =>
      obtain ⟨hi, rfl⟩ | ⟨hi, hp⟩ := poll _ c h
      · exact .inr (.inr (.inr (.inr (.inr (.inr (.inl ⟨c, rest, rfl, hi, rfl⟩))))))
      · exact .inr (.inr (.inr (.inr (.inr (.inr (.inr ⟨c, rest, .inl rfl, hi, hp⟩))))))
    | reset => exact .inr (.inr (.inr (.inl ⟨_, rfl, by simpa using h.symm⟩)))

end Sys2Proof.Machine
end

