-- ==== Sys2Proof/Laws/Poll.lean ====
section
/-! SUPPORT. A poll, said once: what each wait recognises in its bytes, as an equation, and the step a poll makes. -/

namespace Sys2Proof.Machine

theorem State.recognise_enq (u : State) (c : List Byte) (h : u.ctl = .hsEnq) :
    u.recognise c = if 0x05#8 ∈ c then some .rxEnq else none := by
  unfold State.recognise State.wirePort State.wireBytes
  simp only [h, reduceCtorEq, if_false, decode]
  by_cases he : 0x05#8 ∈ c <;> simp [he]

theorem State.recognise_start (u : State) (c : List Byte) (h : u.ctl = .hsStart) :
    u.recognise c = if 0x06#8 ∈ c then some .rxHsAck else none := by
  unfold State.recognise State.wirePort State.wireBytes
  simp only [h, reduceCtorEq, if_false, decode]
  by_cases he : 0x06#8 ∈ c <;> simp [he]

theorem State.recognise_ack (u : State) (c : List Byte) (h : u.ctl = .xch) (hd : u.dec = .awaitAck) :
    u.recognise c = if u.rxbuf ≠ [] ∧ byteAt u.rxbuf 0 = 0x15#8 then some .rxNack else none := by
  unfold State.recognise State.wirePort State.wireBytes
  simp only [h, hd, if_true, decode]
  by_cases h0 : u.rxbuf = []
  · simp [h0]
  by_cases h1 : byteAt u.rxbuf 0 = 0x06#8
  · simp [h0, h1]
  by_cases h2 : byteAt u.rxbuf 0 = 0x15#8 <;> simp [h0, h1, h2]

theorem State.recognise_stx (u : State) (c : List Byte) (h : u.ctl = .xch) (hd : u.dec = .awaitStx) :
    u.recognise c = if 2 < u.rxbuf.length ∧ byteAt u.rxbuf 1 ≠ 0x41#8 then
      some (.rxFraming (byteAt u.rxbuf 1) (byteAt u.rxbuf 2)) else none := by
  unfold State.recognise State.wirePort State.wireBytes
  simp only [h, hd, if_true, decode]
  by_cases h0 : u.rxbuf.length ≤ 2
  · rw [if_pos h0, if_neg (by omega)]
  by_cases h1 : byteAt u.rxbuf 1 = 0x41#8
  · simp [h0, h1]
  · rw [if_neg h0, if_neg h1, if_pos ⟨by omega, h1⟩]

theorem State.recognise_body (u : State) (c : List Byte) (h : u.ctl = .xch) (hd : u.dec = .awaitBody) :
    u.recognise c = (splitResponse u.rxbuf).map fun q => .rxResponse q.1 := by
  unfold State.recognise State.wirePort State.wireBytes
  simp only [h, hd, if_true, decode]
  rcases splitResponse u.rxbuf with _ | ⟨r, rest⟩ <;> rfl

theorem State.recognise_done (u : State) (c : List Byte) (h : u.ctl = .xch) (hd : u.dec = .done) :
    u.recognise c = none := by
  unfold State.recognise State.wirePort
  rw [h, hd]

/-- The step a poll makes while the engine waits (R225, R226, R233, R239). -/
theorem step_poll (s : State) (c : List Byte) (m : List Move) (hc : s.ctl ≠ .idle) (ha : s.agenda = .poll c :: m) :
    step s = match ((s.setAgenda m).polled c).recognise c with
      | some i => exec i ((s.setAgenda m).polled c)
      | none => .next ((s.setAgenda m).polled c).pollMiss := by
  simp only [step, State.fetch, ha, State.fetchPoll, State.setAgenda_ctl, hc, if_false]
  cases ((s.setAgenda m).polled c).recognise c <;> rfl

/-- A poll in a handshake stage reads and counts, and touches no buffer (R225, R226). -/
theorem State.polled_stage (s : State) (c : List Byte) (h : s.ctl ≠ .xch) : s.polled c = s.pollRead c := by
  simp [State.polled, h]

/-- A poll in an exchange feeds the decoder (R233). -/
theorem State.polled_xch (s : State) (c : List Byte) (h : s.ctl = .xch) : s.polled c = (s.pollRead c).feed c := by
  simp [State.polled, h]

end Sys2Proof.Machine
end

