-- ==== Sys2Proof/Laws/Exchange.lean ====
section
/-! SUPPORT. One poll of an exchange against R196: the model's recogniser and decoder moves agree with `DECODE`. -/

namespace Sys2Proof.Machine

/-- A response split off a buffer that starts with ACK and STX is the buffer's first PayloadLen + 4 bytes (R191). -/
theorem responseBytes_split (buf : List Byte) (r : Response) (rest : List Byte) (h0 : byteAt buf 0 = 0x06#8)
    (h1 : byteAt buf 1 = 0x41#8) (h : splitResponse buf = some (r, rest)) :
    responseBytes r = buf.take ((byteAt buf 2).toNat + 4) ∧ r.body.length = (byteAt buf 2).toNat ∧
      r.body.length + 4 ≤ buf.length := by
  obtain ⟨a, b, c, d, e, f⟩ := splitResponse_some _ _ _ h
  rcases buf with _ | ⟨x, _ | ⟨y, _ | ⟨z, bs⟩⟩⟩
  · simp at a
  · simp at a
  · simp at a
  have b' : z.toNat + 4 ≤ bs.length + 3 := b
  have c' : r.body = bs.take z.toNat := by
    rw [c]; show slice (x :: y :: z :: bs) 3 (z.toNat + 3) = _; simp
  have d' : r.check = byteAt bs z.toNat := d
  have e' : r.body.length = z.toNat := e
  have hz : countByte r.body.length = z := by rw [e', countByte_of_byte]
  have x0 : x = 0x06#8 := h0
  have y0 : y = 0x41#8 := h1
  subst x0 y0
  refine ⟨?_, e', by simp; omega⟩
  show responseBytes r = (0x06#8 :: 0x41#8 :: z :: bs).take (z.toNat + 4)
  have hl : z.toNat < bs.length := by omega
  simp only [responseBytes, hz, List.take_succ_cons]
  rw [List.take_succ_eq_append_getElem hl, c', d', byteAt_lt _ _ hl]
  rfl

/-- Where a response is complete, R196's AWAIT_BODY case and the model's classification give the same outcome. -/
theorem refBody_some (buf : List Byte) (r : Response) (rest : List Byte) (h0 : byteAt buf 0 = 0x06#8)
    (h1 : byteAt buf 1 = 0x41#8) (h : splitResponse buf = some (r, rest)) :
    ∃ out, (out = .checksumError (responsePayload r) ∨ out = .deviceError (responsePayload r) ∨
        out = .success (responsePayload r)) ∧
      refBody buf = (.done, responseBytes r, some out) ∧ ∀ s : State, s.onResponse r = (s.truncate r).completeXch out := by
  obtain ⟨h2, h3, h4⟩ := responseBytes_split _ _ _ h0 h1 h
  have hp : responsePayload r = slice (responseBytes r) 8 ((byteAt buf 2).toNat + 3) := by rw [responsePayload, h3]
  have hk : byteAt (responseBytes r) ((byteAt buf 2).toNat + 3) = r.check := by
    rw [← h3, show responseBytes r = ([0x06#8, 0x41#8, countByte r.body.length] ++ r.body) ++ [r.check] from rfl,
      byteAt_append_right _ _ _ (by simp)]
    simp
  unfold refBody
  simp only
  rw [if_neg (by omega), ← h2, hk, ← hp]
  by_cases hc : responseChecks r = true
  · have := hc
    simp only [responseChecks, beq_iff_eq] at this
    rw [if_neg (by simp [this])]
    by_cases he : responseIsError r = true
    · have := he
      simp only [responseIsError, beq_iff_eq] at this
      rw [if_pos this]
      exact ⟨_, .inr (.inl rfl), rfl, fun s => by simp [State.onResponse, hc, he]; rfl⟩
    · have h' := he
      simp only [responseIsError, beq_iff_eq] at h'
      rw [if_neg h']
      exact ⟨_, .inr (.inr rfl), rfl, fun s => by simp [State.onResponse, hc, he]; rfl⟩
  · have := hc
    simp only [responseChecks, beq_iff_eq] at this
    rw [if_pos this]
    exact ⟨_, .inl rfl, rfl, fun s => by simp [State.onResponse, hc]; rfl⟩

/-- Where no response is complete, R196's AWAIT_BODY case waits. -/
theorem refBody_none (buf : List Byte) (h2 : 2 < buf.length) (h : splitResponse buf = none) :
    refBody buf = (.awaitBody, buf, none) := by
  unfold refBody
  simp only
  rw [if_pos]
  simp only [splitResponse] at h
  split at h
  · omega
  · simp at h

/-- What a fed state recognises agrees with `DECODE`'s answer: nothing and a wait; a rejection; or a complete response. -/
def State.Agrees (u : State) (c : List Byte) (ref : Dec × List Byte × Option DecOutcome) : Prop :=
  (u.recognise c = none ∧ ref = (u.dec, u.rxbuf, none)) ∨
  (∃ out, (out = .nack ∨ out = .framingError) ∧ ref = (.done, u.rxbuf, some out) ∧
    ∃ i, u.recognise c = some i ∧ exec i u = .next (u.completeXch out)) ∨
  (∃ r out, (out = .checksumError (responsePayload r) ∨ out = .deviceError (responsePayload r) ∨
      out = .success (responsePayload r)) ∧
    ref = (.done, responseBytes r, some out) ∧ r.body.length ≤ 255 ∧ u.recognise c = some (.rxResponse r) ∧
    exec (.rxResponse r) u = .next ((u.truncate r).completeXch out))

/-- In an exchange whose buffer has just been fed, the model's recogniser and R196's `DECODE` agree: nothing and a wait, a
rejection, or a complete response and its outcome. -/
theorem State.recognise_refDecode (u : State) (c : List Byte) (d : Dec) (B : List Byte) (hx : u.ctl = .xch)
    (hB : u.rxbuf = B) (hD : u.dec = advanceDec d B) (h1 : d = .awaitStx → 0 < B.length ∧ byteAt B 0 = 0x06#8)
    (h2 : d = .awaitBody → 2 < B.length ∧ byteAt B 0 = 0x06#8 ∧ byteAt B 1 = 0x41#8) (h3 : d ≠ .done) :
    u.Agrees c (refDecode d B) := by
  have body : u.dec = .awaitBody → 2 < B.length → byteAt B 0 = 0x06#8 → byteAt B 1 = 0x41#8 →
      u.Agrees c (refBody B) := by
    intro hb g2 g0 g1
    unfold State.Agrees
    rw [State.recognise_body u c hx hb, hB]
    rcases hs : splitResponse B with _ | ⟨r, rest⟩
    · exact .inl ⟨rfl, by rw [refBody_none B g2 hs, hb]⟩
    · obtain ⟨out, hk, ho, hr⟩ := refBody_some B r rest g0 g1 hs
      have := (byteAt B 2).isLt
      refine .inr (.inr ⟨r, out, hk, ho, by rw [(responseBytes_split _ _ _ g0 g1 hs).2.1]; omega, rfl, ?_⟩)
      simp [exec, execRxResponse, hx, hb, State.inXch, hr]
  have stx : u.dec = advanceStx B → 0 < B.length → byteAt B 0 = 0x06#8 → u.Agrees c (refStx B) := by
    intro hd g g0
    unfold advanceStx at hd
    unfold refStx
    by_cases gl : B.length ≤ 2
    · rw [if_neg (by omega)] at hd
      unfold State.Agrees
      rw [if_pos gl, State.recognise_stx u c hx hd, hB, if_neg (by omega)]
      exact .inl ⟨rfl, by rw [hd]⟩
    · rw [if_neg gl]
      by_cases g1 : byteAt B 1 = 0x41#8
      · rw [if_pos ⟨by omega, g1⟩] at hd
        rw [if_pos g1]
        exact body hd (by omega) g0 g1
      · rw [if_neg (by tauto)] at hd
        unfold State.Agrees
        rw [if_neg g1, State.recognise_stx u c hx hd, hB, if_pos ⟨by omega, g1⟩]
        exact .inr (.inl ⟨_, .inr rfl, rfl, _, rfl, by simp [exec, execRxFraming, hx, hd, State.inXch]⟩)
  cases d with
  | awaitAck =>
    simp only [advanceDec] at hD
    simp only [refDecode, refAck]
    by_cases g : B = []
    · rw [if_neg (by tauto)] at hD
      unfold State.Agrees
      rw [if_pos g, State.recognise_ack u c hx hD, hB, if_neg (by tauto)]
      exact .inl ⟨rfl, by rw [hD]⟩
    · by_cases g0 : byteAt B 0 = 0x06#8
      · rw [if_pos ⟨g, g0⟩] at hD
        rw [if_neg g, if_pos g0]
        exact stx hD (List.length_pos_iff.2 g) g0
      · rw [if_neg (by tauto)] at hD
        unfold State.Agrees
        rw [if_neg g, if_neg g0, State.recognise_ack u c hx hD, hB]
        by_cases g1 : byteAt B 0 = 0x15#8
        · rw [if_pos g1, if_pos ⟨g, g1⟩]
          exact .inr (.inl ⟨_, .inl rfl, rfl, _, rfl, by simp [exec, execRxNack, hx, hD, State.inXch]⟩)
        · rw [if_neg g1, if_neg (by tauto)]
          exact .inl ⟨rfl, by rw [hD]⟩
  | awaitStx => exact stx hD (h1 rfl).1 (h1 rfl).2
  | awaitBody => exact body hD (h2 rfl).1 (h2 rfl).2.1 (h2 rfl).2.2
  | done => exact absurd rfl h3

end Sys2Proof.Machine
end

