-- ==== Sys2Proof/Laws/PerInstr.lean ====
section
/-! SUPPORT. The family of statements made per instruction: how long an instruction is on its port. -/

namespace Sys2Proof.Laws.EncodedLength

open Sys2Proof Sys2Proof.Machine

/-- A well-formed instruction is 1 to 259 bytes long: a command or control byte at the least, and at the most a response
with PayloadLen 255, the capacity of `RXBUF` (R37, R103). -/
def Statement (i : Instr) : Prop := i.wf = true → 1 ≤ (encode i).length ∧ (encode i).length ≤ 259

theorem read : Statement .read := fun _ => by simp [encode]
theorem write : Statement .write := fun _ => by simp [encode]
theorem rpc : Statement .rpc := fun _ => by simp [encode]
theorem handshake : Statement .handshake := fun _ => by simp [encode]
theorem close : Statement .close := fun _ => by simp [encode]
theorem reserved (opcode : Byte) : Statement (.reserved opcode) := fun _ => by simp [encode]
theorem txReadReq (addr : Addr) (length : Byte) : Statement (.txReadReq addr length) := fun _ => by
  simp [encode, encRead]
theorem txWriteReq (addr : Addr) (data : List Byte) : Statement (.txWriteReq addr data) := fun h => by
  have := (writeLengthOk_iff data.length).1 h
  simp only [encode, encWrite, encReq_length]; omega
theorem txRpcReq (addr : Addr) (procId : Byte) (args : List Byte) : Statement (.txRpcReq addr procId args) := fun h => by
  have := (rpcLengthOk_iff args.length).1 h
  simp only [encode, encRpc, encReq_length, List.length_cons]; omega
theorem txEot : Statement .txEot := fun _ => by simp [encode, encEot]
theorem txStartVs2 : Statement .txStartVs2 := fun _ => by simp [encode, encStart]
theorem rxEnq : Statement .rxEnq := fun _ => by simp [encode]
theorem rxHsAck : Statement .rxHsAck := fun _ => by simp [encode]
theorem rxNack : Statement .rxNack := fun _ => by simp [encode]
theorem rxFraming (second third : Byte) : Statement (.rxFraming second third) := fun _ => by simp [encode]

theorem rxResponse (r : Response) : Statement (.rxResponse r) := responseBytes_bounds r
theorem rxResponseChecksumError (r : Response) : Statement (.rxResponseChecksumError r) := fun h =>
  responseBytes_bounds r (by simp only [Instr.wf, Bool.and_eq_true] at h; exact h.1)
theorem rxResponseDeviceError (r : Response) : Statement (.rxResponseDeviceError r) := fun h =>
  responseBytes_bounds r (by simp only [Instr.wf, Bool.and_eq_true] at h; exact h.1.1)
theorem rxResponseSuccess (r : Response) : Statement (.rxResponseSuccess r) := fun h =>
  responseBytes_bounds r (by simp only [Instr.wf, Bool.and_eq_true] at h; exact h.1.1)

end Sys2Proof.Laws.EncodedLength
end

