-- ==== Sys2Proof/Laws/Run.lean ====
section
/-! SUPPORT. Runs: one more step, no moves, one move and the rest; and what a host write can do, said once. -/

namespace Sys2Proof.Machine

theorem core_run_succ (s t : State) (n : Nat) (h : step s = .next t) :
    Host.Core.run Sys2Proof.core (n + 1) s = Host.Core.run Sys2Proof.core n t := by
  have : Sys2Proof.core.step s = .next t := h
  simp only [Host.Core.run, this]

theorem State.after_nil (s : State) (m : List Move) : s.after [] m = .next (s.setAgenda m) := rfl

/-- The moves after the first, from the state the first leads to. -/
theorem State.after_cons (s t : State) (x : Move) (ms m : List Move) (h : step (s.setAgenda (x :: (ms ++ m))) = .next t)
    (hg : t.agenda = ms ++ m) : s.after (x :: ms) m = t.after ms m := by
  rw [State.after, List.length_cons, List.cons_append, core_run_succ _ t _ h, State.after, State.setAgenda, ← hg]

/-- Bit 0 of the `STATUS` byte (R28). -/
theorem State.status_busy (s : State) : s.status.getLsbD 0 = true ↔ s.ctl ≠ .idle := by
  have : s.status.getLsbD 0 = s.busy := by
    unfold State.status
    rcases s.session <;> rcases s.ovr <;> rcases s.done <;> rcases s.busy <;> rfl
  rw [this]
  simp

/-- What a host write to a register other than `CMD` leaves as it was, and its effect on `OVR` and on the memory's form. -/
theorem State.hostWrite_frame (s : State) (off : Off) (v : Byte) :
    (s.hostWrite off v).ctl = s.ctl ∧ (s.hostWrite off v).session = s.session ∧ (s.hostWrite off v).rxbuf = s.rxbuf ∧
    (s.hostWrite off v).attempt = s.attempt ∧ (s.hostWrite off v).result = s.result ∧
    (s.hostWrite off v).rxlen = s.rxlen ∧ (s.hostWrite off v).dec = s.dec ∧ (s.hostWrite off v).op = s.op ∧
    (s.hostWrite off v).latchLen = s.latchLen ∧ (s.hostWrite off v).csum = s.csum ∧ (s.hostWrite off v).cmd = s.cmd ∧
    (s.hostWrite off v).history = s.history ∧ (s.hostWrite off v).agenda = s.agenda ∧
    (s.hostWrite off v).hostGot = s.hostGot ∧ (s.hostWrite off v).tick = s.tick ∧ (s.hostWrite off v).epoch = s.epoch ∧
    (Memory.wf s.mem = true → Memory.wf (s.hostWrite off v).mem = true) ∧
    ((s.hostWrite off v).ovr = s.ovr ∨ off = offStatus ∧ (s.hostWrite off v).ovr = (s.ovr && !v.getLsbD 2)) := by
  unfold State.hostWrite
  by_cases h : off = offStatus
  · rw [if_pos h]
    exact ⟨rfl, rfl, rfl, rfl, rfl, rfl, rfl, rfl, rfl, rfl, rfl, rfl, rfl, rfl, rfl, rfl, id, .inr ⟨h, rfl⟩⟩
  rw [if_neg h]
  repeat' split
  all_goals first
    | exact ⟨rfl, rfl, rfl, rfl, rfl, rfl, rfl, rfl, rfl, rfl, rfl, rfl, rfl, rfl, rfl, rfl, id, .inl rfl⟩
    | exact ⟨rfl, rfl, rfl, rfl, rfl, rfl, rfl, rfl, rfl, rfl, rfl, rfl, rfl, rfl, rfl, rfl, Memory.set_wf _ _ _,
        .inl rfl⟩

end Sys2Proof.Machine
end

