-- ==== Sys2Proof/Tests/Slice0.lean ====
section
/-! SUPPORT. Tests on fixed values: ill-formed terms, words of every row written out from the spec's encodings, one step
per instruction against spec/95_test_vectors.md, and a witness for the hypotheses of every obligation. -/

namespace Sys2Proof.Tests

open Sys2Proof Sys2Proof.Machine

/-! ### Helpers -/

/-- The outcome is a next state that passes the check. -/
def nextIs (o : Host.Outcome State Fault Refusal) (check : State → Bool) : Bool :=
  match o with
  | .next t => check t
  | .fault _ => false
  | .refused _ => false

/-- Idle, with a ready session. -/
def ready : State := { State.reset with session := .ready }

/-- Waiting in an exchange. -/
def exchange (o : Op) (latch : Byte) : State := { ready with ctl := .xch, op := o, latchLen := latch }

/-- Waiting in a handshake stage, with `n` polls made. -/
def stage (c : Ctl) (n : BitVec 9) : State := { State.reset with ctl := c, session := .handshaking, attempt := n }

/-- One step on a pending move. -/
def move (s : State) (m : Move) : Host.Outcome State Fault Refusal := step (s.setAgenda [m])

/-- What is posted: the code, the status byte, and the payload. -/
def posted (s : State) (code : Code) (status : Byte) (p : List Byte) : Bool :=
  s.result == code && s.status == status && s.rxlen == countByte p.length &&
    (List.range p.length).map s.rxdata == p

/-! ### Ill-formed terms, one per check of `Instr.wf` -/

theorem test_wf_reserved : (Instr.reserved 0x01).wf = false ∧ (Instr.reserved 0x12).wf = true := by decide
theorem test_wf_write : (Instr.txWriteReq 0 (List.replicate 251 0)).wf = false ∧
    (Instr.txWriteReq 0 (List.replicate 250 0)).wf = true := by
  constructor <;> simp only [Instr.wf, writeLengthOk, List.length_replicate] <;> decide
theorem test_wf_rpc : (Instr.txRpcReq 0 0 (List.replicate 250 0)).wf = false ∧
    (Instr.txRpcReq 0 0 (List.replicate 249 0)).wf = true := by
  constructor <;> simp only [Instr.wf, rpcLengthOk, List.length_replicate] <;> decide
theorem test_wf_framing : (Instr.rxFraming 0x41 0).wf = false ∧ (Instr.rxFraming 0x06 0x41).wf = true := by decide
theorem test_wf_response : (Instr.rxResponse ⟨List.replicate 256 0, 0⟩).wf = false ∧
    (Instr.rxResponse ⟨List.replicate 255 0, 0⟩).wf = true := by
  constructor <;> simp only [Instr.wf, Response.wf, List.length_replicate] <;> decide
theorem test_wf_checksum_error : (Instr.rxResponseChecksumError ⟨[0x01], 0x02⟩).wf = false ∧
    (Instr.rxResponseChecksumError ⟨[0x01], 0x03⟩).wf = true := by decide
theorem test_wf_device_error : (Instr.rxResponseDeviceError ⟨[0x01], 0x02⟩).wf = false ∧
    (Instr.rxResponseDeviceError ⟨[0x03], 0x04⟩).wf = true := by decide
theorem test_wf_success : (Instr.rxResponseSuccess ⟨[0x03], 0x04⟩).wf = false ∧
    (Instr.rxResponseSuccess ⟨[0x01], 0x02⟩).wf = true := by decide

/-! ### Words written out from the spec's encodings (R91, R94, R95, R106; 95_test_vectors.md sections 2.2 and 2.3) -/

theorem test_decode_read : decode .command [0x01] = .ok (.read, []) := by decide
theorem test_decode_write : decode .command [0x02] = .ok (.write, []) := by decide
theorem test_decode_rpc : decode .command [0x07] = .ok (.rpc, []) := by decide
theorem test_decode_handshake : decode .command [0x10] = .ok (.handshake, []) := by decide
theorem test_decode_close : decode .command [0x11] = .ok (.close, []) := by decide
theorem test_decode_reserved : decode .command [0x03] = .ok (.reserved 0x03, []) := by decide
/-- E1. -/
theorem test_decode_tx_read : decode .transmit [0x41, 0x05, 0x00, 0x01, 0x00, 0xF8, 0x08, 0x06] =
    .ok (.txReadReq 0x00F8 0x08, []) := by decide
/-- E7. -/
theorem test_decode_tx_write : decode .transmit [0x41, 0x07, 0x00, 0x02, 0x63, 0x00, 0x02, 0x2A, 0x00, 0x98] =
    .ok (.txWriteReq 0x6300 [0x2A, 0x00], []) := by decide
/-- E12. -/
theorem test_decode_tx_rpc : decode .transmit [0x41, 0x08, 0x00, 0x07, 0x0B, 0x00, 0x03, 0x02, 0x03, 0x04, 0x26] =
    .ok (.txRpcReq 0x0B00 0x02 [0x03, 0x04], []) := by decide
/-- The source's own checksum 0x02 of that telegram is refused (90_conflicts.md C1). -/
theorem test_decode_bad_checksum : decode .transmit [0x41, 0x05, 0x00, 0x01, 0x00, 0xF8, 0x08, 0x02] =
    .error .badChecksum := by decide
theorem test_decode_tx_eot : decode .transmit [0x04] = .ok (.txEot, []) := by decide
theorem test_decode_tx_start : decode .transmit [0x16, 0x00, 0x00] = .ok (.txStartVs2, []) := by decide
theorem test_decode_rx_enq : decode .enqStage [0x00, 0x05, 0x06] = .ok (.rxEnq, []) := by decide
theorem test_decode_rx_hs_ack : decode .startStage [0x06] = .ok (.rxHsAck, []) := by decide
/-- DV5. -/
theorem test_decode_rx_nack : decode .awaitAck [0x15] = .ok (.rxNack, []) := by decide
/-- DV10. -/
theorem test_decode_rx_framing : decode .awaitStx [0x06, 0x06, 0x41] = .ok (.rxFraming 0x06 0x41, []) := by decide
/-- DV12: the byte after the telegram is noise. -/
theorem test_decode_rx_response : decode .awaitBody [0x06, 0x41, 0x05, 0x01, 0x02, 0x23, 0x23, 0x01, 0x4F, 0xAA] =
    .ok (.rxResponse ⟨[0x01, 0x02, 0x23, 0x23, 0x01], 0x4F⟩, [0xAA]) := by decide
/-- DV13. -/
theorem test_decode_rx_checksum_error : decode .classified [0x06, 0x41, 0x05, 0x01, 0x02, 0x23, 0x23, 0x01, 0x4E] =
    .ok (.rxResponseChecksumError ⟨[0x01, 0x02, 0x23, 0x23, 0x01], 0x4E⟩, []) := by decide
/-- DV14. -/
theorem test_decode_rx_device_error : decode .classified [0x06, 0x41, 0x05, 0x03, 0x02, 0x23, 0x23, 0x01, 0x51] =
    .ok (.rxResponseDeviceError ⟨[0x03, 0x02, 0x23, 0x23, 0x01], 0x51⟩, []) := by decide
/-- DV17. -/
theorem test_decode_rx_success :
    decode .classified [0x06, 0x41, 0x07, 0x01, 0x01, 0x08, 0x00, 0x02, 0xE1, 0x00, 0xF4] =
      .ok (.rxResponseSuccess ⟨[0x01, 0x01, 0x08, 0x00, 0x02, 0xE1, 0x00], 0xF4⟩, []) := by decide
/-- A table word, first byte least significant: 06 06 41 read as three bytes. -/
theorem test_table_word : decodeTableWord 24 0x410606 = some (.rxFraming 0x06 0x41) ∧
    decodeTableWord 8 0x10 = some .handshake ∧ decodeTableWord 24 0x000016 = some .txStartVs2 := by decide

/-! ### One step per instruction (95_test_vectors.md section 2.4) -/

/-- W1. -/
theorem test_read : nextIs (move { ready with addrLo := 0xF8, len := 0x08 } (.write 0x000 0x01)) (fun t =>
    t.history == [.clr, .tx [0x41, 0x05, 0x00, 0x01, 0x00, 0xF8, 0x08, 0x06]] && t.status == 0x21 &&
      t.latchLen == 0x08) = true := by decide
/-- SV13. -/
theorem test_read_not_ready : nextIs (move State.reset (.write 0x000 0x01)) (fun t =>
    posted t .notReady 0x02 [] && t.history == []) = true := by decide
/-- SV18. -/
theorem test_write : nextIs (move { ready with addrHi := 0x23, addrLo := 0x23, txlen := 1, mem := [(0x100, 0x01)] }
    (.write 0x000 0x02)) (fun t =>
      t.history == [.clr, .tx [0x41, 0x06, 0x00, 0x02, 0x23, 0x23, 0x01, 0x01, 0x50]] && t.op == .write) = true := by
  decide
/-- SV20. -/
theorem test_write_too_long : nextIs (move { ready with txlen := 0xFB } (.write 0x000 0x02)) (fun t =>
    posted t .invalidLength 0x22 [] && t.history == [.clr]) = true := by decide
/-- P3. -/
theorem test_rpc : nextIs (move { ready with
    addrHi := 0x0B, procId := 0x02, txlen := 2, mem := [(0x100, 0x03), (0x101, 0x04)] } (.write 0x000 0x07)) (fun t =>
      t.history == [.clr, .tx [0x41, 0x08, 0x00, 0x07, 0x0B, 0x00, 0x03, 0x02, 0x03, 0x04, 0x26]] && t.op == .rpc) =
        true := by decide
/-- SV24. -/
theorem test_rpc_too_long : nextIs (move { ready with txlen := 0xFA } (.write 0x000 0x07)) (fun t =>
    posted t .invalidLength 0x22 [] && t.history == [.clr]) = true := by decide
/-- R224's example. -/
theorem test_handshake : nextIs (move State.reset (.write 0x000 0x10)) (fun t =>
    t.history == [.clr, .tx [0x04]] && t.status == 0x11) = true := by decide
/-- SV26. -/
theorem test_close : nextIs (move ready (.write 0x000 0x11)) (fun t =>
    posted t .ok 0x02 [] && t.history == [.tx [0x04]]) = true := by decide
/-- SV28. -/
theorem test_reserved : nextIs (move ready (.write 0x000 0x03)) (fun t =>
    posted t .illegalCommand 0x22 [] && t.cmd == 0x03 && t.history == []) = true := by decide
/-- PV1. -/
theorem test_reserved_busy : nextIs (move (stage .hsEnq 0) (.write 0x000 0xFF)) (fun t =>
    t.status == 0x15 && t.cmd == 0x00 && t.ctl == .hsEnq) = true := by decide
/-- E5, and what the accumulator leaves. -/
theorem test_tx_write : nextIs (exec (.txWriteReq 0x2323 [0x01]) ready) (fun t =>
    t.history == [.tx [0x41, 0x06, 0x00, 0x02, 0x23, 0x23, 0x01, 0x01, 0x50]] && t.csum == 0x50) = true := by decide
/-- E4. -/
theorem test_tx_read : nextIs (exec (.txReadReq 0x0000 0x00) ready) (fun t =>
    t.history == [.tx [0x41, 0x05, 0x00, 0x01, 0x00, 0x00, 0x00, 0x06]]) = true := by decide
/-- E13. -/
theorem test_tx_rpc : nextIs (exec (.txRpcReq 0x0B00 0x01 []) ready) (fun t =>
    t.history == [.tx [0x41, 0x06, 0x00, 0x07, 0x0B, 0x00, 0x01, 0x01, 0x1A]]) = true := by decide
/-- E17 and E18. -/
theorem test_tx_controls : nextIs (exec .txEot ready) (fun t => t.history == [.tx [0x04]]) = true ∧
    nextIs (exec .txStartVs2 ready) (fun t => t.history == [.tx [0x16, 0x00, 0x00]]) = true := by decide
/-- SV7: the 06 of the poll that ends the ENQ stage is not kept. -/
theorem test_rx_enq : nextIs (move (stage .hsEnq 29) (.poll [0x00, 0x05, 0x06])) (fun t =>
    t.ctl == .hsStart && t.attempt == 0 &&
      t.history == [.rx [0x00, 0x05, 0x06], .clr, .tx [0x16, 0x00, 0x00]]) = true := by decide
/-- SV6: a NACK byte is no ENQ, and poll 30 ends the stage. -/
theorem test_enq_fails : nextIs (move (stage .hsEnq 29) (.poll [0x15])) (fun t => posted t .hsFailEnq 0x32 []) = true := by
  decide
/-- SV1. -/
theorem test_rx_hs_ack : nextIs (move (stage .hsStart 0) (.poll [0x06])) (fun t => posted t .ok 0x22 []) = true := by
  decide
/-- SV4. -/
theorem test_start_fails : nextIs (move (stage .hsStart 29) (.poll [])) (fun t => posted t .hsFailStart 0x32 []) =
    true := by decide
/-- PV5. -/
theorem test_rx_nack : nextIs (move (exchange .read 8) (.poll [0x15, 0x06, 0x41, 0x05])) (fun t =>
    posted t .nack 0x22 [] && t.rxbuf == []) = true := by decide
/-- DV9. -/
theorem test_rx_framing : nextIs (move (exchange .read 8) (.poll [0x06, 0x15, 0x00])) (fun t =>
    posted t .framingError 0x22 []) = true := by decide
/-- W4d: two bytes are not enough. -/
theorem test_framing_waits : nextIs (move (exchange .read 8) (.poll [0x06, 0x40])) (fun t =>
    t.ctl == .xch && t.dec == .awaitStx) = true := by decide
/-- P1, polls 1 to 3 of the READ: the bytes arrive in three polls. -/
theorem test_rx_response : nextIs (move { exchange .read 8 with
    dec := .awaitBody, rxbuf := [0x06, 0x41, 0x0D, 0x01, 0x01, 0x00, 0xF8] }
    (.poll [0x08, 0x20, 0x92, 0x01, 0x0C, 0x00, 0x00, 0x01, 0x5A, 0x29])) (fun t =>
      posted t .ok 0x22 [0x20, 0x92, 0x01, 0x0C, 0x00, 0x00, 0x01, 0x5A] && t.csum == 0x29) = true := by decide
/-- W2 as given: `dlen` 07 with 17 bytes held. -/
theorem test_rx_checksum_error : nextIs (move (exchange .read 8) (.poll [0x06, 0x41, 0x07, 0x00, 0x01, 0x00, 0xF8, 0x08,
    0x20, 0x92, 0x01, 0x0C, 0x00, 0x00, 0x01, 0x5A, 0x22])) (fun t => posted t .checksumError 0x22 [0x20, 0x92]) =
      true := by decide
/-- DV16: 0x13 at index 3 marks an error, and a READ's error payload is not cut. -/
theorem test_rx_device_error : nextIs (move (exchange .read 1) (.poll [0x06, 0x41, 0x09, 0x13, 0x01, 0x55, 0x25, 0x04,
    0x01, 0x02, 0x03, 0x04, 0xA5])) (fun t => posted t .remoteError 0x22 [0x01, 0x02, 0x03, 0x04]) = true := by decide
/-- DV21: with `dlen` 1 the error nibble is tested all the same. -/
theorem test_rx_device_error_short : nextIs (move (exchange .write 0) (.poll [0x06, 0x41, 0x01, 0x03, 0x04])) (fun t =>
    posted t .remoteError 0x22 []) = true := by decide
/-- SV10: a READ's payload is cut to `LEN` 1. -/
theorem test_rx_success : nextIs (move (exchange .read 1) (.poll [0x06, 0x41, 0x07, 0x01, 0x01, 0x00, 0xF8, 0x02, 0x34,
    0x12, 0x49])) (fun t => posted t .ok 0x22 [0x34]) = true := by decide
/-- DV19, SV22: an RPC's is not. -/
theorem test_rx_success_rpc : nextIs (move (exchange .rpc 1) (.poll [0x06, 0x41, 0x07, 0x01, 0x07, 0x0B, 0x00, 0x03, 0x05,
    0x06, 0x28])) (fun t => posted t .ok 0x22 [0x05, 0x06]) = true := by decide
/-- DV8: no resynchronisation after a noise byte. -/
theorem test_noise : nextIs (move (exchange .read 8) (.poll [0x00, 0x06, 0x41, 0x05, 0x01, 0x02, 0x23, 0x23, 0x01, 0x4F]))
    (fun t => t.ctl == .xch && t.dec == .awaitAck && t.attempt == 1) = true := by decide
/-- SV15, SV16: poll 300 ends the exchange, and a response that completes on it wins. -/
theorem test_poll_300 : nextIs (move { exchange .read 1 with attempt := 299 } (.poll [])) (fun t =>
      posted t .timeout 0x22 []) = true ∧
    nextIs (move { exchange .read 1 with attempt := 299 } (.poll [0x06, 0x41, 0x06, 0x01, 0x01, 0x00, 0x00, 0x01, 0x77,
      0x80])) (fun t => posted t .ok 0x22 [0x77]) = true := by decide

/-! ### Registers, reset and placing (95_test_vectors.md sections 2.5 and 2.6) -/

/-- RV4 to RV7. -/
theorem test_status_writes :
    nextIs (move { ready with done := true, ovr := true } (.write 0x001 0xFF)) (fun t => t.status == 0x20) = true ∧
    nextIs (move { ready with done := true, ovr := true } (.write 0x001 0x02)) (fun t => t.status == 0x24) = true ∧
    nextIs (move { ready with done := true, ovr := true } (.write 0x001 0x04)) (fun t => t.status == 0x22) = true ∧
    nextIs (move { ready with done := true } (.write 0x001 0x31)) (fun t => t.status == 0x22) = true := by decide
/-- RV2, RV3, RV8. -/
theorem test_ignored : [0x009, 0x0FF, 0x300, 0x3FF].map State.reset.hostRead = [0x00, 0x00, 0x00, 0x00] ∧
    nextIs (move ready (.write 0x050 0x55)) (fun t => t == ready) = true ∧
    nextIs (move ready (.write 0x002 0x55)) (fun t => t == ready) = true := by decide
/-- RV9. -/
theorem test_address : nextIs (move ready (.write 0x003 0x12)) (fun t =>
    nextIs (move t (.write 0x004 0x34)) (fun u => u.addr == 0x1234)) = true := by decide
/-- PV7. -/
theorem test_reset_event : nextIs (move { exchange .read 8 with history := [.clr] } .reset) (fun t =>
    t.status == 0x00 && t.ctl == .idle && t.result == .none && t.history == [.clr]) = true := by decide
/-- R110: WAIT ends at the read that sees `DONE`, and stays before it. -/
theorem test_wait : nextIs (move { ready with done := true } .wait) (fun t =>
      t.agenda == [] && t.hostGot == [0x22]) = true ∧
    nextIs (step ((exchange .read 8).setAgenda [.wait, .poll [0x15]])) (fun t =>
      t.agenda == [.poll [0x15], .wait] && t.hostGot == [0x21]) = true := by decide
/-- A placed word is the first instruction after reset. -/
theorem test_placed : nextIs (step (State.reset.withFetchWord 8 0x10)) (fun t => t.ctl == .hsEnq) = true ∧
    nextIs (step (State.reset.withFetchWord 8 0x15)) (fun t => t.result == .nack) = true ∧
    nextIs (step (State.reset.withFetchWord 64 0x0608F80001000541)) (fun t =>
      t.history == [.clr, .tx [0x41, 0x05, 0x00, 0x01, 0x00, 0xF8, 0x08, 0x06]]) = true := by decide
/-- Memory: a cell written and read, in canonical form. -/
theorem test_memory : Memory.set [(0x100, 1), (0x102, 3)] 0x101 2 = [(0x100, 1), (0x101, 2), (0x102, 3)] ∧
    Memory.get [(0x100, 1), (0x102, 3)] 0x101 = none ∧ Memory.wf [(0x102, 3), (0x100, 1)] = false := by decide

/-! ### Witnesses: concrete states and operands that meet every hypothesis of an obligation, at the ends of its ranges -/

theorem test_hyp_ChecksumStxCase : (2 ≤ [0x41#8, 0x00#8].length ∧ byteAt [0x41#8, 0x00#8] 0 = 0x41#8) ∧
    ([] : List Byte).length = (0x00#8).toNat ∧ 5 + (List.replicate 250 0x00#8).length ≤ 255 := by
  rw [List.length_replicate]; decide
theorem test_hyp_ChecksumAckCase : (3 ≤ [0x06#8, 0x41#8, 0x00#8].length ∧ byteAt [0x06#8, 0x41#8, 0x00#8] 0 = 0x06#8) ∧
    [0x77#8].length = (0x01#8).toNat := by decide
theorem test_hyp_ChecksumElseZero : ([] : List Byte) = [] ∧ byteAt [0x15#8, 0x41#8] 0 ≠ 0x41#8 ∧
    byteAt [0x15#8, 0x41#8] 0 ≠ 0x06#8 := by decide
theorem test_hyp_ChecksumShortLists : [0x00#8, 0x01#8].length ≤ (0x05#8).toNat ∧ ([] : List Byte).length ≤ (0x00#8).toNat := by
  decide
theorem test_hyp_ChecksumArithmetic : [0x01#8, 0x02#8].Perm [0x02#8, 0x01#8] := List.Perm.swap _ _ _
theorem test_hyp_AccumulatorGivesChecksum : checksumRange [0x41#8, 0x01#8, 0x02#8] = some [0x01#8, 0x02#8] ∧
    checksumRange [0x06#8, 0x41#8] = none := by decide
theorem test_hyp_ChecksumIgnoresTrailingBytes :
    (2 ≤ [0x41#8, 0x00#8].length ∧ byteAt [0x41#8, 0x00#8] 0 = 0x41#8 ∧
      (byteAt [0x41#8, 0x00#8] 1).toNat + 2 ≤ [0x41#8, 0x00#8].length) ∧
    (3 ≤ [0x06#8, 0x41#8, 0x00#8].length ∧ byteAt [0x06#8, 0x41#8, 0x00#8] 0 = 0x06#8 ∧
      (byteAt [0x06#8, 0x41#8, 0x00#8] 2).toNat + 3 ≤ [0x06#8, 0x41#8, 0x00#8].length) := by decide
theorem test_hyp_RequestLayouts : (List.replicate 250 0x00#8).length ≤ 250 ∧ (List.replicate 249 0x00#8).length ≤ 249 := by
  simp only [List.length_replicate]; decide
theorem test_hyp_RequestsEndInTheirChecksum : ([] : List Byte).length ≤ 249 ∧ (List.replicate 250 0xFF#8).length ≤ 250 := by
  rw [List.length_replicate]; decide
theorem test_hyp_DecodeOfEncode : (Instr.txRpcReq 0xFFFF 0xFF []).wf = true ∧ (Instr.rxFraming 0x40 0x41).wf = true ∧
    (Instr.rxResponseSuccess ⟨[], 0x00⟩).wf = true ∧ (Instr.reserved 0x00).wf = true := by decide
theorem test_hyp_DecodeIsSound : decode .transmit [0x04, 0x05] = .ok (.txEot, [0x05]) ∧
    decode .awaitAck [0x15, 0x06] = .ok (.rxNack, [0x06]) := by decide
theorem test_hyp_StepRunsTheCommand : (ready.setAgenda [.write offCmd 0x01]).agenda = .write offCmd 0x01 :: [] ∧
    decode .command [0x01, 0x02] = .ok (.read, [0x02]) := by decide
theorem test_hyp_StepRunsTheWireInstruction :
    let s := (exchange .read 8).setAgenda [.poll [0x15]]
    let t := { exchange .read 8 with
      history := [.rx [0x15]], attempt := 1, tick := 1, rxbuf := [0x15], dec := advanceDec .awaitAck [0x15] }
    s.ctl ≠ .idle ∧ s.agenda = .poll [0x15] :: [] ∧
      t = { s with
        agenda := []
        history := s.history ++ [.rx [0x15]]
        attempt := s.attempt + 1
        tick := s.tick + 1
        rxbuf := (s.rxbuf ++ [0x15]).take 259
        dec := advanceDec s.dec ((s.rxbuf ++ [0x15]).take 259) } ∧
      t.wirePort = some .awaitAck ∧ decode .awaitAck t.rxbuf = .ok (.rxNack, []) := by decide
theorem test_hyp_PollsOnlyWhileWaiting : (ready.setAgenda [.poll [0x15]]).ctl = .idle ∧ ready.agenda = [] ∧
    (stage .hsEnq 0).ctl ≠ .idle ∧ (stage .hsEnq 0).agenda = [] := by decide
theorem test_hyp_CommandWhileBusyIsDropped : (stage .hsStart 5).ctl ≠ .idle ∧ (exchange .rpc 0).ctl ≠ .idle := by decide
theorem test_hyp_HandshakeAccepted : { ready with session := .faulted }.ctl = .idle := by decide
theorem test_hyp_ReadAccepted : ready.ctl = .idle ∧ ready.session = .ready ∧ State.reset.ctl = .idle ∧
    State.reset.session ≠ .ready := by decide
theorem test_hyp_WriteAccepted : { ready with txlen := 250 }.ctl = .idle ∧ ¬ 250 < { ready with txlen := 250 }.txlen.toNat ∧
    250 < { ready with txlen := 251 }.txlen.toNat ∧ State.reset.session ≠ .ready := by decide
theorem test_hyp_RpcAccepted : { ready with txlen := 249 }.ctl = .idle ∧ ¬ 249 < { ready with txlen := 249 }.txlen.toNat ∧
    249 < { ready with txlen := 250 }.txlen.toNat := by decide
theorem test_hyp_ReservedIsIllegal : ready.ctl = .idle ∧ isCommandOpcode 0x00 = false ∧ isCommandOpcode 0x12 = false := by
  decide
theorem test_hyp_CloseCompletes : State.reset.ctl = .idle := by decide
/-- Each branch of the order, at the lengths where the last two meet. -/
theorem test_hyp_DispatchPriority : (stage .hsEnq 0).ctl ≠ .idle ∧ (ready.ctl = .idle ∧ isCommandOpcode 0xFF = false) ∧
    State.reset.session ≠ .ready ∧ 250 < { ready with txlen := 251 }.txlen.toNat ∧
    ¬ 249 < { ready with txlen := 249 }.txlen.toNat ∧ isCommandOpcode 0x07 = true := by decide
theorem test_hyp_RequestRowsAreSent : (List.replicate 250 0x00#8).length ≤ 250 ∧ ¬ (List.replicate 251 0x00#8).length ≤ 250 ∧
    (List.replicate 249 0x00#8).length ≤ 249 ∧ ¬ (List.replicate 250 0x00#8).length ≤ 249 := by
  simp only [List.length_replicate]; decide
theorem test_hyp_HandshakeRowsRun : (stage .hsEnq 29).ctl = .hsEnq ∧ (stage .hsStart 29).ctl = .hsStart := by decide
theorem test_hyp_RejectionRowsRun : (exchange .read 0).ctl = .xch ∧ (exchange .read 0).dec = .awaitAck ∧
    { exchange .read 0 with dec := .awaitStx }.dec = .awaitStx := by decide
theorem test_hyp_OutcomeRowsRun : { exchange .rpc 0 with dec := .done }.ctl = .xch ∧
    { exchange .rpc 0 with dec := .done }.dec = .done := by decide
/-- The three outcomes, and the shortest body. -/
theorem test_hyp_ResponseRowClassifies : { exchange .write 0 with dec := .awaitBody }.dec = .awaitBody ∧
    (List.replicate 255 0x00#8).length ≤ 255 ∧ sum8 [0x01#8, 0x03#8] = 0x04#8 ∧ sum8 [0x00#8] = 0x00#8 ∧
    sum8 [0x00#8] ≠ 0x01#8 := by
  refine ⟨by decide, by rw [List.length_replicate], by decide, by decide, by decide⟩
theorem test_hyp_RowsOutsideTheirState : ready.ctl ≠ .hsEnq ∧ ready.ctl ≠ .hsStart ∧ ready.ctl ≠ .xch ∧
    (exchange .read 0).dec ≠ .awaitStx ∧ (exchange .read 0).dec ≠ .awaitBody ∧ (exchange .read 0).dec ≠ .done ∧
    { exchange .read 0 with dec := .done }.dec ≠ .awaitAck := by decide
theorem test_hyp_CompletionAction : (List.replicate 250 0xAB#8).length ≤ 250 ∧ ([] : List Byte).length ≤ 250 ∧
    (⟨[], 0x00⟩ : Response).wf = true := by
  refine ⟨by rw [List.length_replicate], by decide, by decide⟩
theorem test_hyp_InstructionFrame : (Instr.rxResponse ⟨[0x03], 0x04⟩).wf = true ∧
    nextIs (exec (.rxResponse ⟨[0x03], 0x04⟩) { exchange .read 0 with dec := .awaitBody }) (fun t => t.done) = true ∧
    (exchange .read 8).posts .txEot = [] := by
  decide
/-- The bytes a row posts: a whole payload, a READ's success cut to `LATCH_LEN` (R235), none of a row that posts nothing. -/
theorem test_posts : (exchange .read 1).posts (.rxResponseDeviceError ⟨[1, 1, 0, 8, 2, 0xAA, 0xBB], 0⟩) = [0xAA, 0xBB] ∧
    (exchange .read 1).posts (.rxResponseSuccess ⟨[1, 1, 0, 8, 2, 0xAA, 0xBB], 0⟩) = [0xAA] ∧
    (exchange .write 1).posts (.rxResponseSuccess ⟨[1, 1, 0, 8, 2, 0xAA, 0xBB], 0⟩) = [0xAA, 0xBB] ∧
    (exchange .read 1).posts .rxNack = [] := by decide
/-- The table of R8, with the whole value of `BAUD`, and R154's example lengths. -/
theorem test_parameters : (config.byteBits, config.addrBits, config.hostOffBits) = (8, 16, 10) ∧
    (config.hsPolls, config.hsInterval, config.xchPolls, config.xchInterval) = (30, 100, 300, 10) ∧
    (config.errNibble, config.errIndex, config.rxbufCap) = (0x03#8, 3, 259) ∧
    (config.maxPayloadLen, config.maxWriteData, config.maxRpcArgs) = (255, 250, 249) ∧
    (config.baud.rate, config.baud.dataBits, config.baud.parity, config.baud.stopBits) = (4800, 8, .even, 2) ∧
    writeLengthOk 250 = true ∧ writeLengthOk 251 = false ∧ rpcLengthOk 249 = true ∧ rpcLengthOk 250 = false := by decide
theorem test_hyp_EnqStagePoll : (stage .hsEnq 29).ctl = .hsEnq ∧ (stage .hsEnq 29).attempt + 1 = 30 ∧
    (stage .hsEnq 28).attempt + 1 ≠ 30 ∧ 0x05#8 ∈ [0x05#8] ∧ ((stage .hsEnq 29).setAgenda [.poll []]).agenda = [.poll []] := by
  decide
theorem test_hyp_StartStagePoll : (stage .hsStart 29).ctl = .hsStart ∧ (stage .hsStart 29).attempt + 1 = 30 ∧
    (stage .hsStart 0).attempt + 1 ≠ 30 ∧ 0x06#8 ∉ [0x15#8] := by decide
theorem test_hyp_StepKeepsDecoderInvariant : ((exchange .read 8).setAgenda [.poll [0x15]]).DecInv ∧ (exchange .read 8).ctl = .xch ∧
    { exchange .read 8 with dec := .awaitBody, rxbuf := [0x06, 0x41, 0x00] }.DecInv :=
  ⟨⟨by decide, by decide, by decide, by decide⟩, by decide, ⟨by decide, by decide, by decide, by decide⟩⟩
/-- Each case of `ExchangePollFollowsDecode`: an outcome, the 300th poll, another wait. -/
theorem test_hyp_ExchangePollFollowsDecode : (refDecode .awaitAck [0x15]).2.2 = some .nack ∧
    (refDecode .awaitAck [0x06]).2.2 = none ∧ { exchange .read 8 with attempt := 299 }.attempt + 1 = 300 ∧
    (exchange .read 8).attempt + 1 ≠ 300 := by decide
theorem test_hyp_NackEndsTheExchange : (exchange .read 8).ctl = .xch ∧ (exchange .read 8).dec = .awaitAck ∧
    (exchange .read 8).rxbuf = [] ∧
    ((exchange .read 8).setAgenda [.poll [0x15, 0x06]]).agenda = .poll (0x15#8 :: [0x06]) :: [] := by decide
theorem test_hyp_TimeoutOnPoll300 : (exchange .rpc 0).ctl = .xch ∧ (exchange .rpc 0).dec = .awaitAck ∧
    (exchange .rpc 0).rxbuf = [] ∧ (exchange .rpc 0).attempt = 0 ∧ 299 ≤ 300 := by decide
theorem test_hyp_StageFailsOnPoll30 : (stage .hsEnq 0).ctl = .hsEnq ∧ (stage .hsStart 0).ctl = .hsStart ∧
    (stage .hsEnq 0).attempt = 0 ∧ (∀ c ∈ List.replicate 30 [0x15#8], 0x05#8 ∉ c) ∧
    (List.replicate 30 [0x15#8]).length ≤ 30 := by decide
theorem test_hyp_StepKeepsInvariants : (stage .hsEnq 29).Inv ∧ { exchange .read 8 with attempt := 299 }.Inv ∧ ready.Inv :=
  ⟨⟨by decide, by decide, by decide, by decide, by decide, by decide, by decide, by decide⟩,
    ⟨by decide, by decide, by decide, by decide, by decide, by decide, by decide, by decide⟩,
    ⟨by decide, by decide, by decide, by decide, by decide, by decide, by decide, by decide⟩⟩
theorem test_hyp_WaitsAreBounded : ((exchange .read 8).ctl = .xch ∧ (List.replicate 300 ([] : List Byte)).length = 300) ∧
    (stage .hsEnq 29).ctl.isStage = true ∧ (List.replicate 60 [0x05#8]).length = 60 := by
  refine ⟨⟨by decide, List.length_replicate⟩, by decide, List.length_replicate⟩
theorem test_hyp_NoiseNeverClassifies : { exchange .read 8 with rxbuf := [0x00], attempt := 298 }.dec = .awaitAck ∧
    byteAt [0x00#8] 0 ≠ 0x06#8 ∧ byteAt [0x00#8] 0 ≠ 0x15#8 ∧
    { exchange .read 8 with attempt := 298 }.attempt.toNat + [[0x06#8], [0x41#8]].length = 300 := by decide
/-- DV20 and the example of R233, split over polls. -/
theorem test_hyp_ResponseInAnySplitSucceeds : sum8 [0x00#8] = 0x00#8 ∧ ([0x00#8].headD 0 &&& 0x0F#8 ≠ 0x03#8) ∧
    [[0x06#8], [0x41#8, 0x00#8], [], [0x00#8]].flatten = encode (.rxResponse ⟨[], 0x00⟩) ∧
    [[0x06#8], [0x41#8, 0x07#8, 0x01#8], [0x01#8, 0x08#8, 0x00#8, 0x02#8, 0xE1#8, 0x00#8, 0xF4#8]].flatten =
      encode (.rxResponse ⟨[0x01, 0x01, 0x08, 0x00, 0x02, 0xE1, 0x00], 0xF4⟩) := by decide
theorem test_hyp_CapacityLosesNothing : 259 ≤ 259 ∧ 259 ≤ 1000 := by decide
theorem test_hyp_HostReadsHaveNoSideEffect : (ready.setAgenda [.read 0x001]).agenda = .read 0x001 :: [] := by decide
theorem test_hyp_ParameterWriteIsReadBack : [0x003, 0x004, 0x005, 0x006, 0x007, 0x100, 0x1FF].map isParam =
    [true, true, true, true, true, true, true] ∧ [0x000, 0x001, 0x002, 0x008, 0x0FF, 0x200].map isParam =
    [false, false, false, false, false, false] := by decide
theorem test_hyp_RegisterMap : (ready.setAgenda [.write 0x1FF 0x55]).agenda =
    .write (BitVec.ofNat 10 (0x100 + 255)) 0x55 :: [] := by decide
theorem test_hyp_IgnoredOffsets : [0x002, 0x008, 0x009, 0x0FF, 0x200, 0x2FF, 0x300, 0x3FF].map isIgnored =
    [true, true, true, true, true, true, true, true] ∧ [0x000, 0x001, 0x007, 0x100, 0x1FF].map isIgnored =
    [false, false, false, false, false] := by decide
theorem test_hyp_StatusRegister : (ready.setAgenda [.write 0x001 0x06]).agenda = .write 0x001 0x06 :: [] := by decide
theorem test_hyp_InputsAreLatched : Memory.wf [(0x100, 1), (0x200, 2)] = true ∧ isParam 0x1FF = true ∧
    isParam 0x003 = true := by decide
theorem test_hyp_WriteLineSendsItsTelegram : ready.ctl = .idle ∧ ready.session = .ready ∧
    ([] : List Byte).length ≤ 250 ∧ (List.replicate 250 0x00#8).length ≤ 250 := by
  refine ⟨by decide, by decide, by decide, by rw [List.length_replicate]⟩
theorem test_hyp_ResetEvent : ((exchange .read 8).setAgenda [.reset]).agenda = .reset :: [] := by decide
theorem test_hyp_StepKeepsMemoryForm : Memory.wf { ready with mem := [(0x100, 7)] }.mem = true ∧
    nextIs (move { ready with mem := [(0x100, 7)] } (.write 0x0FF 1)) (fun t => Memory.wf t.mem) = true := by decide
theorem test_hyp_StepKeepsResultLength : { ready with rxlen := 250 }.rxlen.toNat ≤ 250 ∧
    nextIs (move { ready with rxlen := 250 } (.read 0x008)) (fun t => t.rxlen == 250) = true := by decide
/-- Each transition of R223, from a state that meets `Inv` by `test_hyp_StepKeepsInvariants` or is one field away from one. -/
theorem test_hyp_SessionTransitions :
    nextIs (move ready (.write 0x000 0x10)) (fun t => t.session == .handshaking) = true ∧
    nextIs (move (stage .hsStart 0) (.poll [0x06])) (fun t => t.session == .ready) = true ∧
    nextIs (move (stage .hsEnq 29) (.poll [])) (fun t => t.session == .faulted) = true ∧
    nextIs (move ready (.write 0x000 0x11)) (fun t => t.session == .uninitialized) = true ∧
    nextIs (move (exchange .read 8) .reset) (fun t => t.session == .uninitialized) = true ∧
    nextIs (move (exchange .read 8) (.poll [0x15])) (fun t => t.session == .ready) = true := by decide
/-- Each way to send: the poll that ends the ENQ stage, an accepted READ, CLOSE; and a refused READ, which sends nothing. -/
theorem test_hyp_TransmitsOnlyWhereAllowed : nextIs (move (stage .hsEnq 0) (.poll [0x05])) (fun t =>
    sent t.history == [[0x16, 0x00, 0x00]]) = true ∧
    nextIs (move ready (.write 0x000 0x01)) (fun t => (sent t.history).length == 1 && t.ctl == .xch) = true ∧
    nextIs (move ready (.write 0x000 0x11)) (fun t => sent t.history == [[0x04]] && t.ctl == .idle) = true ∧
    nextIs (move State.reset (.write 0x000 0x01)) (fun t => sent t.history == []) = true := by decide
theorem test_hyp_OverrunIsSticky : nextIs (move { ready with ovr := true } (.write 0x001 0x04)) (fun t => !t.ovr) = true ∧
    (Move.write 0x001 0x04).clearsOvr = true ∧
    nextIs (move (exchange .read 8) (.write 0x000 0x01)) (fun t => t.ovr) = true := by decide

end Sys2Proof.Tests
end

section
/-! SUPPORT. How a poll ends, said once for every wait: the next stage, an end of the handshake, an end of the exchange
with at most 250 payload bytes, or another wait below the attempt bound. -/

namespace Sys2Proof.Machine

@[simp] theorem State.polled_rxbuf (s : State) (c : List Byte) :
    (s.polled c).rxbuf = if s.ctl = .xch then appendRx s.rxbuf c else s.rxbuf := by
  unfold State.polled; split <;> simp

/-- `APPEND` keeps the capacity of `RXBUF` (R37, R181). -/
theorem appendRx_length_le (buf chunk : List Byte) : (appendRx buf chunk).length ≤ 259 := by
  simp [appendRx]

/-- The payload an outcome of a complete response posts has at most 250 bytes (R96, R235). -/
theorem refPost_response_length_le (op : Op) (latchLen : Byte) (r : Response) (out : DecOutcome)
    (hr : r.body.length ≤ 255)
    (h : out = .checksumError (responsePayload r) ∨ out = .deviceError (responsePayload r) ∨
      out = .success (responsePayload r)) : (refPost op latchLen out).2.length ≤ 250 := by
  have hp := responsePayload_length r hr
  obtain rfl | rfl | rfl := h
  · exact hp
  · exact hp
  · simp only [refPost]
    split
    · exact (List.length_take_le' _ _).trans hp
    · exact hp

/-- A poll that recognised nothing ends a stage at its 30th attempt, an exchange at its 300th, and else waits on
(R225, R226, R234). -/
theorem State.pollMiss_cases (u : State) (h : u.ctl ≠ .idle) :
    (u.ctl.isStage = true ∧ ∃ code, u.pollMiss = (u.setSession .faulted).raiseOutcome code []) ∨
    (u.ctl = .xch ∧ u.pollMiss = u.raiseOutcome .timeout []) ∨
    (u.pollMiss = u ∧ (u.ctl.isStage = true → u.attempt ≠ 30) ∧ (u.ctl = .xch → u.attempt ≠ 300)) := by
  unfold State.pollMiss
  cases hc : u.ctl with
  | idle => exact absurd hc h
  | hsEnq =>
    by_cases ha : u.attempt = 30
    · exact .inl ⟨rfl, _, if_pos ha⟩
    · exact .inr (.inr ⟨if_neg ha, fun _ => ha, nofun⟩)
  | hsStart =>
    by_cases ha : u.attempt = 30
    · exact .inl ⟨rfl, _, if_pos ha⟩
    · exact .inr (.inr ⟨if_neg ha, fun _ => ha, nofun⟩)
  | xch =>
    by_cases ha : u.attempt = 300
    · exact .inr (.inl ⟨rfl, if_pos ha⟩)
    · exact .inr (.inr ⟨if_neg ha, nofun, fun _ => ha⟩)

/-- The poll that returned `c` and whose bytes stand in `u` ends in `t`: it runs the row it recognised, or misses. -/
def State.PollLeadsTo (u : State) (c : List Byte) (t : State) : Prop :=
  (∃ i, u.recognise c = some i ∧ exec i u = .next t) ∨ (u.recognise c = none ∧ t = u.pollMiss)

/-- The four ends of a poll: the START stage, the end of the handshake, the end of the exchange, another wait. -/
theorem State.poll_cases (u t : State) (c : List Byte) (hc : u.ctl ≠ .idle)
    (h : u.PollLeadsTo c t) :
    (u.ctl = .hsEnq ∧ t = (u.rxClear.txWrite encStart).startStage .hsStart) ∨
    (u.ctl.isStage = true ∧ ∃ v code, v ≠ .handshaking ∧ t = (u.setSession v).raiseOutcome code []) ∨
    (u.ctl = .xch ∧ ∃ w code p, (w = u ∨ ∃ r, w = u.truncate r) ∧ p.length ≤ 250 ∧ t = w.raiseOutcome code p) ∨
    (t = u ∧ (u.ctl.isStage = true → u.attempt ≠ 30) ∧ (u.ctl = .xch → u.attempt ≠ 300)) := by
  obtain ⟨i, hi, ht⟩ | ⟨-, rfl⟩ := h
  · obtain ⟨he, -, rfl⟩ | ⟨hs, -, rfl⟩ | ⟨hx, rfl | rfl | ⟨r, out, hr, ho, rfl⟩⟩ := u.exec_recognised t c i hi ht
    · exact .inl ⟨he, rfl⟩
    · exact .inr (.inl ⟨by rw [hs]; rfl, .ready, .ok, nofun, rfl⟩)
    · exact .inr (.inr (.inl ⟨hx, u, .nack, [], .inl rfl, Nat.zero_le _, rfl⟩))
    · exact .inr (.inr (.inl ⟨hx, u, .framingError, [], .inl rfl, Nat.zero_le _, rfl⟩))
    · exact .inr (.inr (.inl ⟨hx, u.truncate r, _, _, .inr ⟨r, rfl⟩, refPost_response_length_le _ _ r out hr ho,
        State.completeXch_eq _ out⟩))
  · obtain ⟨hs, code, ht⟩ | ⟨hx, ht⟩ | hw := u.pollMiss_cases hc
    · exact .inr (.inl ⟨hs, .faulted, code, nofun, ht⟩)
    · exact .inr (.inr (.inl ⟨hx, u, .timeout, [], .inl rfl, Nat.zero_le _, ht⟩))
    · exact .inr (.inr (.inr hw))

end Sys2Proof.Machine
end

section
/-! The invariants of R42 (O54, O53): the engine rests, waits in a stage, or waits in an exchange, and every step leads
from one of the three situations to one of them. -/

namespace Sys2Proof.Machine

/-- Between commands: no handshake in progress, and nothing buffered. -/
structure State.AtRest (s : State) : Prop where
  ctl : s.ctl = .idle
  session : s.session ≠ .handshaking
  rxbuf : s.rxbuf = []

/-- What R42 says of a state that waits in a handshake stage. -/
structure State.WaitsInStage (s : State) : Prop where
  ctl : s.ctl.isStage = true
  session : s.session = .handshaking
  rxbuf : s.rxbuf = []
  attempt : s.attempt.toNat < 30
  result : s.result = .none
  rxlen : s.rxlen = 0

/-- What R42 says of a state that waits in an exchange. -/
structure State.WaitsInExchange (s : State) : Prop where
  ctl : s.ctl = .xch
  session : s.session = .ready
  rxbuf : s.rxbuf.length ≤ 259
  attempt : s.attempt.toNat < 300
  result : s.result = .none
  rxlen : s.rxlen = 0

theorem State.AtRest.inv {s : State} (h : s.AtRest) : s.Inv where
  busyBit := s.status_busy
  staged := by simp [h.ctl, h.session, Ctl.isStage]
  exchanging hx := by simp [h.ctl] at hx
  bufferEmpty _ := h.rxbuf
  bufferBound := by simp [h.rxbuf]
  exchangePolls hx := by simp [h.ctl] at hx
  stagePolls hs := by simp [h.ctl, Ctl.isStage] at hs
  noResult hc := absurd h.ctl hc

theorem State.WaitsInStage.inv {s : State} (h : s.WaitsInStage) : s.Inv where
  busyBit := s.status_busy
  staged := by simp [h.ctl, h.session]
  exchanging hx := by simpa [hx, Ctl.isStage] using h.ctl
  bufferEmpty _ := h.rxbuf
  bufferBound := by simp [h.rxbuf]
  exchangePolls hx := by simpa [hx, Ctl.isStage] using h.ctl
  stagePolls _ := h.attempt
  noResult _ := ⟨h.result, h.rxlen⟩

theorem State.WaitsInExchange.inv {s : State} (h : s.WaitsInExchange) : s.Inv where
  busyBit := s.status_busy
  staged := by simp [h.ctl, h.session, Ctl.isStage]
  exchanging _ := h.session
  bufferEmpty hc := absurd h.ctl hc
  bufferBound := h.rxbuf
  exchangePolls _ := h.attempt
  stagePolls hs := by simp [h.ctl, Ctl.isStage] at hs
  noResult _ := ⟨h.result, h.rxlen⟩

/-- The invariants of R42 say that the engine is in one of three situations. -/
theorem State.inv_iff (s : State) : s.Inv ↔ s.AtRest ∨ s.WaitsInStage ∨ s.WaitsInExchange := by
  constructor
  · intro h
    have stage (hs : s.ctl.isStage = true) (hx : s.ctl ≠ .xch) (hi : s.ctl ≠ .idle) : s.WaitsInStage :=
      ⟨hs, h.staged.1 hs, h.bufferEmpty hx, h.stagePolls hs, (h.noResult hi).1, (h.noResult hi).2⟩
    cases hc : s.ctl with
    | idle =>
      have hs : s.session ≠ .handshaking := fun hh => by simpa [hc, Ctl.isStage] using h.staged.2 hh
      exact .inl ⟨hc, hs, h.bufferEmpty (by simp [hc])⟩
    | hsEnq => exact .inr (.inl (stage (by rw [hc]; rfl) (by simp [hc]) (by simp [hc])))
    | hsStart => exact .inr (.inl (stage (by rw [hc]; rfl) (by simp [hc]) (by simp [hc])))
    | xch =>
      obtain ⟨hr, hl⟩ := h.noResult (by simp [hc])
      exact .inr (.inr ⟨hc, h.exchanging hc, h.bufferBound, h.exchangePolls hc, hr, hl⟩)
  · rintro (h | h | h)
    · exact h.inv
    · exact h.inv
    · exact h.inv

/-- The invariants look at six fields. -/
theorem State.Inv.congr {s t : State} (h : s.Inv) (hctl : t.ctl = s.ctl) (hsession : t.session = s.session)
    (hrxbuf : t.rxbuf = s.rxbuf) (hattempt : t.attempt = s.attempt) (hresult : t.result = s.result)
    (hrxlen : t.rxlen = s.rxlen) : t.Inv := by
  obtain ⟨-, h1, h2, h3, h4, h5, h6, h7⟩ := h
  exact ⟨t.status_busy, by rwa [hctl, hsession], by rwa [hctl, hsession], by rwa [hctl, hrxbuf], by rwa [hrxbuf],
    by rwa [hctl, hattempt], by rwa [hctl, hattempt], by rwa [hctl, hresult, hrxlen]⟩

theorem State.Inv.latch {s : State} (h : s.Inv) (v : Byte) : (s.latch v).Inv := h.congr rfl rfl rfl rfl rfl rfl

/-- The completion action leaves the engine at rest, unless the session is still shaking hands (R276). -/
theorem State.raiseOutcome_atRest (s : State) (code : Code) (p : List Byte) (h : s.session ≠ .handshaking) :
    (s.raiseOutcome code p).AtRest :=
  ⟨rfl, h, rfl⟩

/-- A handshake stage begins with no attempt made (R224, R225). -/
theorem State.startStage_waits (s : State) (c : Ctl) (hc : c.isStage = true) (hs : s.session = .handshaking)
    (hb : s.rxbuf = []) (hr : s.result = .none) (hl : s.rxlen = 0) : (s.startStage c).WaitsInStage :=
  ⟨hc, hs, hb, by simp, hr, hl⟩

/-- An exchange begins with an empty buffer and no attempt made (R228, R229, R230). -/
theorem State.startExchange_waits (s : State) (o : Op) (hs : s.session = .ready) (hr : s.result = .none)
    (hl : s.rxlen = 0) : (s.startExchange o).WaitsInExchange :=
  ⟨rfl, hs, by simp, by simp, hr, hl⟩

/-- A command accepted at rest, after the preamble, ends at rest, in the ENQ stage or in an exchange (R222 to R238). -/
theorem acceptOf_inv (v : Byte) (s : State) (h : s.AtRest) (hr : s.result = .none) (hl : s.rxlen = 0) :
    (acceptOf v s).Inv := by
  have request (l : List Byte) (o : Op) (hs : s.session = .ready) : ((s.rxClear.sendRequest l).startExchange o).Inv :=
    (State.startExchange_waits _ o (by simpa using hs) (by simpa using hr) (by simpa using hl)).inv
  obtain ⟨code, ht⟩ | ht | ⟨-, ht⟩ | ⟨-, ht⟩ | ⟨-, hs, l, o, ht⟩ | ⟨-, hs, l, ht⟩ := acceptOf_cases v s <;> rw [ht]
  · exact (s.raiseOutcome_atRest code [] h.session).inv
  · exact (s.rxClear.raiseOutcome_atRest .invalidLength [] h.session).inv
  · exact (State.raiseOutcome_atRest _ .ok [] (by simp)).inv
  · exact (State.startStage_waits _ .hsEnq rfl (by simp) (by simpa using h.rxbuf) (by simpa using hr)
      (by simpa using hl)).inv
  · exact request l o hs
  · exact (request l .read hs).latch s.len

/-- A command byte keeps the invariants: dropped while busy, accepted at rest (R220). -/
theorem State.dispatch_inv (s : State) (v : Byte) (h : s.Inv) : (s.dispatch v (acceptOf v)).Inv := by
  by_cases hi : s.ctl = .idle
  · rw [State.dispatch_idle _ _ _ hi]
    have hrest : (s.preamble v).AtRest :=
      ⟨hi, fun hh => by simpa [hi, Ctl.isStage] using h.staged.2 hh, h.bufferEmpty (by simp [hi])⟩
    exact acceptOf_inv v _ hrest rfl rfl
  · rw [State.dispatch_busy _ _ _ hi]
    exact h.congr rfl rfl rfl rfl rfl rfl

/-- A poll in a handshake stage: the next stage, the end of the handshake, or one attempt more below the bound. -/
theorem State.WaitsInStage.poll_inv {s t : State} (h : s.WaitsInStage) (c : List Byte)
    (hp : (s.polled c).PollLeadsTo c t) : t.Inv := by
  have hx : s.ctl ≠ .xch := fun hx => by simpa [hx, Ctl.isStage] using h.ctl
  have hi : s.ctl ≠ .idle := fun hi => by simpa [hi, Ctl.isStage] using h.ctl
  have hb : (s.polled c).rxbuf = [] := by simp [hx, h.rxbuf]
  obtain ⟨-, rfl⟩ | ⟨-, v, code, hv, rfl⟩ | ⟨hx', -⟩ | ⟨rfl, ha, -⟩ := (s.polled c).poll_cases t c (by simpa) hp
  · exact (State.startStage_waits _ .hsStart rfl (by simpa using h.session) (by simpa using hb)
      (by simpa using h.result) (by simpa using h.rxlen)).inv
  · exact (State.raiseOutcome_atRest ((s.polled c).setSession v) code [] hv).inv
  · exact absurd (by simpa using hx') hx
  · have hlt := h.attempt
    have ha : s.attempt + 1 ≠ 30 := by simpa [h.ctl] using ha
    have hn : (s.attempt + 1).toNat < 30 := by bv_omega
    exact State.WaitsInStage.inv ⟨by simp [h.ctl], by simp [h.session], hb, by simpa using hn, by simp [h.result],
      by simp [h.rxlen]⟩

/-- A poll in an exchange: its end, or one attempt more below the bound with at most 259 bytes held. -/
theorem State.WaitsInExchange.poll_inv {s t : State} (h : s.WaitsInExchange) (c : List Byte)
    (hp : (s.polled c).PollLeadsTo c t) : t.Inv := by
  have hs : (s.polled c).session ≠ .handshaking := by simp [h.session]
  obtain ⟨he, -⟩ | ⟨he, -⟩ | ⟨-, w, code, p, hw, -, rfl⟩ | ⟨rfl, -, ha⟩ :=
    (s.polled c).poll_cases t c (by simp [h.ctl]) hp
  · simp [h.ctl] at he
  · simp [h.ctl, Ctl.isStage] at he
  · obtain rfl | ⟨r, rfl⟩ := hw
    · exact ((s.polled c).raiseOutcome_atRest code p hs).inv
    · exact (((s.polled c).truncate r).raiseOutcome_atRest code p hs).inv
  · have hlt := h.attempt
    have ha : s.attempt + 1 ≠ 300 := by simpa [h.ctl] using ha
    have hn : (s.attempt + 1).toNat < 300 := by bv_omega
    have hb : (s.polled c).rxbuf.length ≤ 259 := by simp [h.ctl, appendRx_length_le]
    exact State.WaitsInExchange.inv ⟨by simp [h.ctl], by simp [h.session], hb, by simpa using hn, by simp [h.result],
      by simp [h.rxlen]⟩

/-- A poll of a waiting engine keeps the invariants. -/
theorem State.Inv.poll {s t : State} (h : s.Inv) (hi : s.ctl ≠ .idle) (c : List Byte)
    (hp : (s.polled c).PollLeadsTo c t) : t.Inv := by
  obtain h | h | h := s.inv_iff.1 h
  · exact absurd h.ctl hi
  · exact h.poll_inv c hp
  · exact h.poll_inv c hp

theorem State.reset_inv : State.reset.Inv := State.AtRest.inv ⟨rfl, nofun, rfl⟩

theorem State.reset_decInv : State.reset.DecInv := ⟨nofun, nofun, nofun, nofun⟩

/-- Settles O54: every step leads from one of the three situations of `State.inv_iff` to one of them. -/
theorem stepKeepsInvariants : Obligations.StepKeepsInvariants := by
  intro s t hs h
  have keep (l : List Move) : (s.setAgenda l).Inv := hs.congr rfl rfl rfl rfl rfl rfl
  obtain ⟨-, -, rfl⟩ | ⟨off, rest, -, rfl⟩ | ⟨rest, -, rfl⟩ | ⟨rest, -, rfl⟩ | ⟨off, v, rest, -, -, rfl⟩ |
    ⟨v, rest, -, rfl⟩ | ⟨c, rest, -, -, rfl⟩ | ⟨c, rest, -, hi, hp⟩ := step_cases s t h
  · exact hs
  · exact hs.congr rfl rfl rfl rfl rfl rfl
  · exact hs.congr rfl rfl rfl rfl rfl rfl
  · exact State.reset_inv.congr rfl rfl rfl rfl rfl rfl
  · obtain ⟨hctl, hsession, hrxbuf, hattempt, hresult, hrxlen, -⟩ := (s.setAgenda rest).hostWrite_frame off v
    exact (keep rest).congr hctl hsession hrxbuf hattempt hresult hrxlen
  · exact State.dispatch_inv _ v (hs.congr rfl rfl rfl rfl rfl rfl)
  · exact keep rest
  · exact (keep rest).poll hi c hp

/-- Settles O53, field by field of the reset state. -/
theorem invariantsAtReset : Obligations.InvariantsAtReset :=
  ⟨State.reset_inv, State.reset_decInv, rfl, Nat.zero_le _⟩

end Sys2Proof.Machine
end

section
/-! RXLEN at most 250 (O57) and the overrun flag (O60): what each kind of step leaves in `RXLEN` and `OVR`. -/

namespace Sys2Proof.Machine

/-- Posting at most 250 bytes leaves `RXLEN` at most 250 (R31, R276). -/
theorem State.raiseOutcome_rxlen_le (s : State) (code : Code) (p : List Byte) (hp : p.length ≤ 250) :
    (s.raiseOutcome code p).rxlen.toNat ≤ 250 := by
  simp only [State.raiseOutcome_rxlen, countByte_toNat]; omega

/-- A command posts no byte. -/
theorem acceptOf_rxlen_le (v : Byte) (s : State) (h : s.rxlen.toNat ≤ 250) : (acceptOf v s).rxlen.toNat ≤ 250 := by
  obtain ⟨code, ht⟩ | ht | ⟨-, ht⟩ | ⟨-, ht⟩ | ⟨-, -, l, o, ht⟩ | ⟨-, -, l, ht⟩ := acceptOf_cases v s <;> rw [ht]
  · exact s.raiseOutcome_rxlen_le code [] (Nat.zero_le _)
  · exact s.rxClear.raiseOutcome_rxlen_le .invalidLength [] (Nat.zero_le _)
  · exact State.raiseOutcome_rxlen_le _ .ok [] (Nat.zero_le _)
  · simpa using h
  · simpa using h
  · simpa using h

theorem State.dispatch_rxlen_le (s : State) (v : Byte) (h : s.rxlen.toNat ≤ 250) :
    (s.dispatch v (acceptOf v)).rxlen.toNat ≤ 250 := by
  by_cases hi : s.ctl = .idle
  · rw [State.dispatch_idle _ _ _ hi]
    exact acceptOf_rxlen_le v _ (Nat.zero_le _)
  · rwa [State.dispatch_busy _ _ _ hi]

theorem State.PollLeadsTo.rxlen_le {u t : State} {c : List Byte} (hp : u.PollLeadsTo c t) (hc : u.ctl ≠ .idle)
    (h : u.rxlen.toNat ≤ 250) : t.rxlen.toNat ≤ 250 := by
  obtain ⟨-, rfl⟩ | ⟨-, v, code, -, rfl⟩ | ⟨-, w, code, p, -, hl, rfl⟩ | ⟨rfl, -⟩ := u.poll_cases t c hc hp
  · simpa using h
  · exact State.raiseOutcome_rxlen_le _ code [] (Nat.zero_le _)
  · exact w.raiseOutcome_rxlen_le code p hl
  · exact h

/-- A command changes `OVR` by its dispatch alone (R220). -/
@[simp] theorem acceptOf_ovr (v : Byte) (s : State) : (acceptOf v s).ovr = s.ovr := by
  obtain ⟨code, ht⟩ | ht | ⟨-, ht⟩ | ⟨-, ht⟩ | ⟨-, -, l, o, ht⟩ | ⟨-, -, l, ht⟩ := acceptOf_cases v s <;> simp [ht]

/-- A command byte sets `OVR` while `BUSY` is 1, and else leaves it (R39, R220). -/
theorem State.dispatch_ovr (s : State) (v : Byte) : (s.dispatch v (acceptOf v)).ovr = (s.busy || s.ovr) := by
  by_cases hi : s.ctl = .idle
  · rw [State.dispatch_idle _ _ _ hi, (s.busy_eq_false).2 hi]; simp
  · rw [State.dispatch_busy _ _ _ hi, (s.busy_eq_true).2 hi]; simp

theorem State.PollLeadsTo.ovr_eq {u t : State} {c : List Byte} (hp : u.PollLeadsTo c t) (hc : u.ctl ≠ .idle) :
    t.ovr = u.ovr := by
  obtain ⟨-, rfl⟩ | ⟨-, v, code, -, rfl⟩ | ⟨-, w, code, p, rfl | ⟨r, rfl⟩, -, rfl⟩ | ⟨rfl, -⟩ :=
    u.poll_cases t c hc hp
  · simp
  · simp
  · simp
  · simp
  · rfl

/-- What one step does to `OVR`: it is kept, but for a reset, a write to `STATUS` and a write to `CMD` (R39). -/
theorem step_ovr_cases (s t : State) (h : step s = .next t) :
    t.ovr = s.ovr ∨
    (t.ovr = false ∧ ∃ rest, s.agenda = .reset :: rest) ∨
    (∃ v rest, s.agenda = .write offStatus v :: rest ∧ t.ovr = (s.ovr && !v.getLsbD 2)) ∨
    (∃ v rest, s.agenda = .write offCmd v :: rest ∧ t.ovr = (s.busy || s.ovr)) := by
  obtain ⟨-, -, rfl⟩ | ⟨off, rest, -, rfl⟩ | ⟨rest, -, rfl⟩ | ⟨rest, ha, rfl⟩ | ⟨off, v, rest, ha, -, rfl⟩ |
    ⟨v, rest, ha, rfl⟩ | ⟨c, rest, -, -, rfl⟩ | ⟨c, rest, -, hi, hp⟩ := step_cases s t h
  · exact .inl rfl
  · exact .inl rfl
  · exact .inl rfl
  · exact .inr (.inl ⟨rfl, rest, ha⟩)
  · obtain ⟨-, -, -, -, -, -, -, -, -, -, -, -, -, -, -, -, -, ho | ⟨rfl, ho⟩⟩ :=
      (s.setAgenda rest).hostWrite_frame off v
    · exact .inl ho
    · exact .inr (.inr (.inl ⟨v, rest, ha, ho⟩))
  · exact .inr (.inr (.inr ⟨v, rest, ha, State.dispatch_ovr _ v⟩))
  · exact .inl rfl
  · exact .inl ((State.PollLeadsTo.ovr_eq hp (by simpa using hi)).trans (by simp))

/-- Settles O57: a completion posts at most 250 bytes, and no other operation raises `RXLEN`. -/
theorem stepKeepsResultLength : Obligations.StepKeepsResultLength := by
  intro s t hs h
  obtain ⟨-, -, rfl⟩ | ⟨off, rest, -, rfl⟩ | ⟨rest, -, rfl⟩ | ⟨rest, -, rfl⟩ | ⟨off, v, rest, -, -, rfl⟩ |
    ⟨v, rest, -, rfl⟩ | ⟨c, rest, -, -, rfl⟩ | ⟨c, rest, -, hi, hp⟩ := step_cases s t h
  · exact hs
  · exact hs
  · exact hs
  · exact Nat.zero_le _
  · obtain ⟨-, -, -, -, -, hrxlen, -⟩ := (s.setAgenda rest).hostWrite_frame off v
    rwa [hrxlen]
  · exact State.dispatch_rxlen_le _ v hs
  · exact hs
  · exact State.PollLeadsTo.rxlen_le hp (by simpa using hi) (by simpa using hs)

/-- Settles O60: the three moves of `step_ovr_cases` that touch `OVR` are the ones R39 names. -/
theorem overrunIsSticky : Obligations.OverrunIsSticky := by
  intro s t h
  obtain ho | ⟨ho, rest, ha⟩ | ⟨v, rest, ha, ho⟩ | ⟨v, rest, ha, ho⟩ := step_ovr_cases s t h
  · exact ⟨fun hs => .inl (ho.trans hs), fun hs ht => by simp [ho, hs] at ht⟩
  · exact ⟨fun _ => .inr ⟨_, rest, ha, rfl⟩, fun _ ht => by simp [ho] at ht⟩
  · refine ⟨fun hs => ?_, fun hs ht => by simp [ho, hs] at ht⟩
    cases hv : v.getLsbD 2 with
    | false => exact .inl (by rw [ho, hs, hv]; rfl)
    | true => exact .inr ⟨_, rest, ha, by simp [Move.clearsOvr, hv]⟩
  · refine ⟨fun hs => .inl (by simp [ho, hs]), fun hs ht => ⟨?_, v, rest, ha⟩⟩
    simpa [ho, hs] using ht

end Sys2Proof.Machine
end

section
/-! The frame of every instruction (O33): what a wire row can do is said once (`exec_wireEffect`), a command is a dispatch
(`exec_command`), and each shared operation keeps what the frame names. -/

namespace Sys2Proof.Machine

/-- A well-formed command is the one its opcode decodes to (R106, R107). -/
theorem eq_decodeCommand_of_port {i : Instr} (hw : i.wf = true) (hp : i.port = .command) :
    ∃ v, i = decodeCommand v := by
  cases i with
  | read => exact ⟨0x01#8, rfl⟩
  | write => exact ⟨0x02#8, rfl⟩
  | rpc => exact ⟨0x07#8, rfl⟩
  | handshake => exact ⟨0x10#8, rfl⟩
  | close => exact ⟨0x11#8, rfl⟩
  | reserved v =>
    simp only [Instr.wf, isCommandOpcode, Bool.not_eq_true', Bool.or_eq_false_iff, beq_eq_false_iff_ne] at hw
    obtain ⟨⟨⟨⟨h1, h2⟩, h7⟩, h10⟩, h11⟩ := hw
    exact ⟨v, by simp [decodeCommand, h1, h2, h7, h10, h11]⟩
  | _ => cases hp

/-- The states a row of the wire can leave behind `s`. -/
inductive State.WireEffect (s : State) : State → Prop
  /-- The row is not recognised in `s`, or its length does not fit (R104, R154). -/
  | nothing : s.WireEffect s
  | sendsControl (l : List Byte) : s.WireEffect (s.txWrite l)
  | sendsRequest (l : List Byte) : s.WireEffect (s.sendRequest l)
  | startsStage : s.WireEffect ((s.rxClear.txWrite encStart).startStage .hsStart)
  | endsHandshake : s.WireEffect ((s.setSession .ready).raiseOutcome .ok [])
  | endsExchange (out : DecOutcome) : s.WireEffect (s.completeXch out)
  | endsOnResponse (r : Response) (out : DecOutcome) : s.WireEffect ((s.truncate r).completeXch out)

theorem State.WireEffect.ite {s u : State} (b : Prop) [Decidable b] (h : s.WireEffect u) :
    s.WireEffect (if b then u else s) := by
  split
  · exact h
  · exact .nothing

/-- What a row of the wire does, said once (R71, R185, R189, R191 to R194, R225, R226). -/
theorem exec_wireEffect (i : Instr) (s t : State) (hp : i.port ≠ .command) (h : exec i s = .next t) :
    s.WireEffect t := by
  cases i with
  | txReadReq addr l => cases h; exact .sendsRequest _
  | txWriteReq addr data => cases h; exact .ite _ (.sendsRequest _)
  | txRpcReq addr pid args => cases h; exact .ite _ (.sendsRequest _)
  | txEot => cases h; exact .sendsControl _
  | txStartVs2 => cases h; exact .sendsControl _
  | rxEnq => cases h; exact .ite _ .startsStage
  | rxHsAck => cases h; exact .ite _ .endsHandshake
  | rxNack => cases h; exact .ite _ (.endsExchange _)
  | rxFraming second third => cases h; exact .ite _ (.endsExchange _)
  | rxResponse r => cases h; rw [State.onResponse_eq]; exact .ite _ (.endsOnResponse r _)
  | rxResponseChecksumError r => cases h; exact .ite _ (.endsExchange _)
  | rxResponseDeviceError r => cases h; exact .ite _ (.endsExchange _)
  | rxResponseSuccess r => cases h; exact .ite _ (.endsExchange _)
  | _ => exact absurd rfl hp

/-- What every operation of the engine keeps of the host's side: the parameter registers (R21, R69), the pending moves,
the host's record, the counters, and the transport record so far (R71 to R73). -/
structure State.KeepsHostSide (s t : State) : Prop where
  addrHi : t.addrHi = s.addrHi
  addrLo : t.addrLo = s.addrLo
  len : t.len = s.len
  procId : t.procId = s.procId
  txlen : t.txlen = s.txlen
  agenda : t.agenda = s.agenda
  hostGot : t.hostGot = s.hostGot
  tick : t.tick = s.tick
  epoch : t.epoch = s.epoch
  history : s.history <+: t.history

namespace State.KeepsHostSide

theorem refl (s : State) : s.KeepsHostSide s :=
  ⟨rfl, rfl, rfl, rfl, rfl, rfl, rfl, rfl, rfl, List.prefix_rfl⟩

theorem trans {s t u : State} (h : s.KeepsHostSide t) (k : t.KeepsHostSide u) : s.KeepsHostSide u :=
  ⟨k.addrHi.trans h.addrHi, k.addrLo.trans h.addrLo, k.len.trans h.len, k.procId.trans h.procId,
    k.txlen.trans h.txlen, k.agenda.trans h.agenda, k.hostGot.trans h.hostGot, k.tick.trans h.tick,
    k.epoch.trans h.epoch, h.history.trans k.history⟩

theorem txWrite {s t : State} (h : s.KeepsHostSide t) (l : List Byte) : s.KeepsHostSide (t.txWrite l) :=
  h.trans ⟨rfl, rfl, rfl, rfl, rfl, rfl, rfl, rfl, rfl, List.prefix_append _ _⟩

theorem rxClear {s t : State} (h : s.KeepsHostSide t) : s.KeepsHostSide t.rxClear :=
  h.trans ⟨rfl, rfl, rfl, rfl, rfl, rfl, rfl, rfl, rfl, List.prefix_append _ _⟩

/-- An operation that leaves the transport record as it is. -/
theorem of_history_eq {s t u : State} (h : s.KeepsHostSide t) (addrHi : u.addrHi = t.addrHi)
    (addrLo : u.addrLo = t.addrLo) (len : u.len = t.len) (procId : u.procId = t.procId) (txlen : u.txlen = t.txlen)
    (agenda : u.agenda = t.agenda) (hostGot : u.hostGot = t.hostGot) (tick : u.tick = t.tick)
    (epoch : u.epoch = t.epoch) (history : u.history = t.history) : s.KeepsHostSide u :=
  h.trans ⟨addrHi, addrLo, len, procId, txlen, agenda, hostGot, tick, epoch, by rw [history]⟩

theorem sendRequest {s t : State} (h : s.KeepsHostSide t) (l : List Byte) : s.KeepsHostSide (t.sendRequest l) :=
  (h.of_history_eq (u := t.runCsum l.dropLast) rfl rfl rfl rfl rfl rfl rfl rfl rfl rfl).txWrite l

theorem raiseOutcome {s t : State} (h : s.KeepsHostSide t) (code : Code) (p : List Byte) :
    s.KeepsHostSide (t.raiseOutcome code p) :=
  h.of_history_eq rfl rfl rfl rfl rfl rfl rfl rfl rfl rfl

theorem completeXch {s t : State} (h : s.KeepsHostSide t) (out : DecOutcome) : s.KeepsHostSide (t.completeXch out) :=
  t.completeXch_eq out ▸ h.raiseOutcome _ _

theorem setSession {s t : State} (h : s.KeepsHostSide t) (v : Session) : s.KeepsHostSide (t.setSession v) :=
  h.of_history_eq rfl rfl rfl rfl rfl rfl rfl rfl rfl rfl

theorem startStage {s t : State} (h : s.KeepsHostSide t) (c : Ctl) : s.KeepsHostSide (t.startStage c) :=
  h.of_history_eq rfl rfl rfl rfl rfl rfl rfl rfl rfl rfl

theorem startExchange {s t : State} (h : s.KeepsHostSide t) (o : Op) : s.KeepsHostSide (t.startExchange o) :=
  h.of_history_eq rfl rfl rfl rfl rfl rfl rfl rfl rfl rfl

theorem latch {s t : State} (h : s.KeepsHostSide t) (v : Byte) : s.KeepsHostSide (t.latch v) :=
  h.of_history_eq rfl rfl rfl rfl rfl rfl rfl rfl rfl rfl

theorem truncate {s t : State} (h : s.KeepsHostSide t) (r : Response) : s.KeepsHostSide (t.truncate r) :=
  h.of_history_eq rfl rfl rfl rfl rfl rfl rfl rfl rfl rfl

theorem preamble {s t : State} (h : s.KeepsHostSide t) (v : Byte) : s.KeepsHostSide (t.preamble v) :=
  h.of_history_eq rfl rfl rfl rfl rfl rfl rfl rfl rfl rfl

theorem setOvr {s t : State} (h : s.KeepsHostSide t) : s.KeepsHostSide t.setOvr :=
  h.of_history_eq rfl rfl rfl rfl rfl rfl rfl rfl rfl rfl

theorem acceptOf {s t : State} (h : s.KeepsHostSide t) (v : Byte) : s.KeepsHostSide (acceptOf v t) := by
  obtain ⟨code, ht⟩ | ht | ⟨-, ht⟩ | ⟨-, ht⟩ | ⟨-, -, l, o, ht⟩ | ⟨-, -, l, ht⟩ := acceptOf_cases v t <;> rw [ht]
  · exact h.raiseOutcome code []
  · exact h.rxClear.raiseOutcome .invalidLength []
  · exact ((h.txWrite encEot).setSession .uninitialized).raiseOutcome .ok []
  · exact ((h.rxClear.txWrite encEot).setSession .handshaking).startStage .hsEnq
  · exact (h.rxClear.sendRequest l).startExchange o
  · exact ((h.rxClear.sendRequest l).startExchange .read).latch t.len

end State.KeepsHostSide

theorem State.dispatch_keepsHostSide (s : State) (v : Byte) : s.KeepsHostSide (s.dispatch v (acceptOf v)) := by
  by_cases hi : s.ctl = .idle
  · rw [State.dispatch_idle _ _ _ hi]
    exact ((State.KeepsHostSide.refl s).preamble v).acceptOf v
  · rw [State.dispatch_busy _ _ _ hi]
    exact (State.KeepsHostSide.refl s).setOvr

theorem State.WireEffect.keepsHostSide {s t : State} (h : s.WireEffect t) : s.KeepsHostSide t := by
  have hs := State.KeepsHostSide.refl s
  cases h with
  | nothing => exact hs
  | sendsControl l => exact hs.txWrite l
  | sendsRequest l => exact hs.sendRequest l
  | startsStage => exact (hs.rxClear.txWrite encStart).startStage .hsStart
  | endsHandshake => exact (hs.setSession .ready).raiseOutcome .ok []
  | endsExchange out => exact hs.completeXch out
  | endsOnResponse r out => exact (hs.truncate r).completeXch out

/-- Only a command writes `CMD` and sets `OVR` (R27, R39). -/
theorem State.WireEffect.cmd_ovr {s t : State} (h : s.WireEffect t) : t.cmd = s.cmd ∧ t.ovr = s.ovr := by
  cases h with
  | nothing => exact ⟨rfl, rfl⟩
  | sendsControl l => exact ⟨rfl, rfl⟩
  | sendsRequest l => exact ⟨rfl, rfl⟩
  | startsStage => exact ⟨rfl, rfl⟩
  | endsHandshake => exact ⟨rfl, rfl⟩
  | endsExchange out => rw [State.completeXch_eq]; exact ⟨rfl, rfl⟩
  | endsOnResponse r out => rw [State.completeXch_eq]; exact ⟨rfl, rfl⟩

/-- Every well-formed instruction keeps the host's side and never clears `OVR`. -/
theorem exec_keepsHostSide (i : Instr) (s t : State) (hw : i.wf = true) (h : exec i s = .next t) :
    s.KeepsHostSide t ∧ (s.ovr = true → t.ovr = true) := by
  by_cases hp : i.port = .command
  · obtain ⟨v, rfl⟩ := eq_decodeCommand_of_port hw hp
    rw [exec_command, Host.Outcome.next.injEq] at h
    subst h
    exact ⟨s.dispatch_keepsHostSide v, fun ho => by simp [State.dispatch_ovr, ho]⟩
  · have he := exec_wireEffect i s t hp h
    exact ⟨he.keepsHostSide, fun ho => he.cmd_ovr.2.trans ho⟩

/-- Settles O33: the host's side by `exec_keepsHostSide`, memory by `exec_mem`, `CMD` and `OVR` by the effect of a wire
row. -/
theorem instructionFrame : Obligations.InstructionFrame := by
  intro i s t hw h
  obtain ⟨⟨addrHi, addrLo, len, procId, txlen, agenda, hostGot, tick, epoch, new, history⟩, hovr⟩ :=
    exec_keepsHostSide i s t hw h
  have hmem := exec_mem i s t h
  have hnone : s.posts i = [] → t.mem = s.mem := fun hn => by
    rw [hn] at hmem
    exact or_self_iff.1 hmem
  have houtside (a : Nat) (ha : a < rxBase ∨ rxBase + (s.posts i).length ≤ a) :
      Memory.get t.mem a = Memory.get s.mem a := by
    obtain hm | hm := hmem
    · rw [hm]
    · rw [hm, Memory.get_setList_outside _ _ _ _ ha]
  exact ⟨addrHi, addrLo, len, procId, txlen, agenda, hostGot, tick, epoch, hnone, houtside,
    fun hp => (exec_wireEffect i s t hp h).cmd_ovr, hovr, new, history.symm⟩

end Sys2Proof.Machine
end

section
/-! `STATUS` field by field (O48), and the reset values (O51). -/

namespace Sys2Proof.Machine

/-- A bit of the `STATUS` byte, read off its fields, bit 7 first (R28). -/
theorem State.status_getLsbD (s : State) (i : Nat) : s.status.getLsbD i =
    (0#2 ++ sessionBits s.session ++ 0#1 ++ BitVec.ofBool s.ovr ++ BitVec.ofBool s.done ++
      BitVec.ofBool (s.ctl != .idle)).getLsbD i := rfl

/-- The one-bit fields: `BUSY`, `DONE` and `OVR`. -/
theorem State.status_flags (s : State) : s.status.getLsbD 0 = (s.ctl != .idle) ∧ s.status.getLsbD 1 = s.done ∧
    s.status.getLsbD 2 = s.ovr := by
  simp only [State.status_getLsbD, BitVec.getLsbD_append]
  simp

/-- The reserved bits read 0. -/
theorem State.status_reserved (s : State) : s.status.getLsbD 3 = false ∧ s.status.getLsbD 6 = false ∧
    s.status.getLsbD 7 = false := by
  simp only [State.status_getLsbD, BitVec.getLsbD_append]
  simp

/-- Bits 5:4 are `SESSION` (R29). -/
theorem State.status_session (s : State) : s.status.extractLsb' 4 2 = sessionBits s.session := by
  apply BitVec.eq_of_getLsbD_eq
  intro i hi
  have hge : ¬ 4 + i < 1 ∧ ¬ 4 + i - 1 < 1 ∧ ¬ 4 + i - 1 - 1 < 1 ∧ ¬ 4 + i - 1 - 1 - 1 < 1 := by omega
  have hsub : 4 + i - 1 - 1 - 1 - 1 = i := by omega
  simp only [BitVec.getLsbD_extractLsb', State.status_getLsbD, BitVec.getLsbD_append, hge, hsub, hi, if_true, if_false,
    decide_true, Bool.true_and]

/-- The step of a host write to a register other than `CMD` (R64). -/
theorem step_write (s : State) (off : Off) (v : Byte) (moves : List Move) (ha : s.agenda = .write off v :: moves)
    (ho : off ≠ offCmd) : step s = .next ((s.setAgenda moves).hostWrite off v) := by
  simp [step, State.fetch, ha, State.fetchWrite, ho]

/-- Settles O48: the fields of the byte, and the write by `step_write`. -/
theorem statusRegister : Obligations.StatusRegister := by
  refine ⟨fun s => ?_, fun s v moves ha => step_write s offStatus v moves ha (by decide), rfl⟩
  obtain ⟨hbusy, hdone, hovr⟩ := s.status_flags
  obtain ⟨h3, h6, h7⟩ := s.status_reserved
  exact ⟨rfl, hbusy, hdone, hovr, h3, s.status_session, h6, h7⟩

/-- Settles O51: the fields by definition, the nine offsets one by one. -/
theorem resetValues : Obligations.ResetValues := by
  have offsets : ∀ n : Fin 9, State.reset.hostRead (BitVec.ofNat 10 n) = 0x00#8 := by decide
  refine ⟨rfl, rfl, rfl, rfl, rfl, rfl, rfl, rfl, rfl, rfl, rfl, rfl, rfl, rfl, rfl, rfl, rfl, rfl, rfl, ?_⟩
  intro off ho
  simpa using offsets ⟨off.toNat, by omega⟩

end Sys2Proof.Machine
end

section
/-! The register map: host reads change nothing (O44), each offset names its register (O46), reserved and read-only
offsets ignore writes (O47), and a parameter write sets one input and nothing else (O45). -/

namespace Sys2Proof.Machine

theorem step_read (s : State) (off : Off) (moves : List Move) (ha : s.agenda = .read off :: moves) :
    step s = .next ((s.setAgenda moves).readStep off) := by
  simp [step, State.fetch, ha]

/-- Two moves in a row, by the step each makes. -/
theorem State.after_pair {s t u : State} {x y : Move} {moves : List Move}
    (hx : step (s.setAgenda (x :: y :: moves)) = .next t) (hy : step t = .next u) : s.after [x, y] moves = .next u :=
  (core_run_succ _ t 1 hx).trans (core_run_succ t u 0 hy)

/-- Settles O44: the first read changes only the pending moves and the host's record, which no read looks at (R63). -/
theorem hostReadsHaveNoSideEffect : Obligations.HostReadsHaveNoSideEffect := by
  refine ⟨step_read, fun s off moves => ?_⟩
  rw [State.after_pair (t := (s.setAgenda (.read off :: moves)).readStep off)
    (u := { s with agenda := moves, hostGot := (s.hostGot ++ [s.hostRead off]) ++ [s.hostRead off] })
    (step_read _ off _ rfl) (step_read _ off moves rfl), List.append_assoc]
  rfl

/-- The single registers lie at the offsets below 9 (R61). -/
theorem ne_of_nine_le {off k : Off} (h : 9 ≤ off.toNat) (hk : k.toNat < 9) : off ≠ k := by
  rintro rfl
  omega

theorem single_register_cases {off : Off} (h : off.toNat < 9) : off = offCmd ∨ off = offStatus ∨ off = offResult ∨
    off = offAddrHi ∨ off = offAddrLo ∨ off = offLen ∨ off = offProcId ∨ off = offTxlen ∨ off = offRxlen := by
  simp only [← BitVec.toNat_inj, offCmd, offStatus, offResult, offAddrHi, offAddrLo, offLen, offProcId, offTxlen,
    offRxlen, BitVec.toNat_ofNat]
  omega

theorem State.hostRead_of_nine_le (s : State) {off : Off} (h : 9 ≤ off.toNat) :
    s.hostRead off = if isTxdata off = true then s.txdata (off.toNat - txBase)
      else if isRxdata off = true then s.rxdata (off.toNat - rxBase) else 0x00#8 := by
  have hne {k : Off} (hk : k.toNat < 9) : off ≠ k := ne_of_nine_le h hk
  rw [State.hostRead, if_neg (hne (by decide)), if_neg (hne (by decide)), if_neg (hne (by decide)),
    if_neg (hne (by decide)), if_neg (hne (by decide)), if_neg (hne (by decide)), if_neg (hne (by decide)),
    if_neg (hne (by decide)), if_neg (hne (by decide))]

theorem State.hostWrite_of_nine_le (s : State) {off : Off} (v : Byte) (h : 9 ≤ off.toNat) :
    s.hostWrite off v = if isTxdata off = true then { s with mem := Memory.set s.mem off.toNat v } else s := by
  have hne {k : Off} (hk : k.toNat < 9) : off ≠ k := ne_of_nine_le h hk
  rw [State.hostWrite, if_neg (hne (by decide)), if_neg (hne (by decide)), if_neg (hne (by decide)),
    if_neg (hne (by decide)), if_neg (hne (by decide)), if_neg (hne (by decide))]

theorem isTxdata_iff {off : Off} : isTxdata off = true ↔ 0x100 ≤ off.toNat ∧ off.toNat < 0x200 :=
  decide_eq_true_iff

theorem isRxdata_iff {off : Off} : isRxdata off = true ↔ 0x200 ≤ off.toNat ∧ off.toNat < 0x300 :=
  decide_eq_true_iff

theorem State.hostRead_txdata (s : State) {off : Off} (h : isTxdata off = true) :
    s.hostRead off = s.txdata (off.toNat - txBase) := by
  have hr := isTxdata_iff.1 h
  rw [s.hostRead_of_nine_le (by omega), if_pos h]

theorem State.hostRead_rxdata (s : State) {off : Off} (h : isRxdata off = true) :
    s.hostRead off = s.rxdata (off.toNat - rxBase) := by
  have hr := isRxdata_iff.1 h
  rw [s.hostRead_of_nine_le (by omega), if_neg (fun ht => by have := isTxdata_iff.1 ht; omega), if_pos h]

theorem State.hostWrite_txdata (s : State) {off : Off} (v : Byte) (h : isTxdata off = true) :
    s.hostWrite off v = { s with mem := Memory.set s.mem off.toNat v } := by
  have hr := isTxdata_iff.1 h
  rw [s.hostWrite_of_nine_le v (by omega), if_pos h]

/-- Settles O46: the single registers by definition, the two windows by their ranges. -/
theorem registerMap : Obligations.RegisterMap := by
  have tx (i : Nat) (hi : i < 256) : (BitVec.ofNat 10 (0x100 + i)).toNat = 0x100 + i := by
    rw [BitVec.toNat_ofNat]; omega
  have rx (i : Nat) (hi : i < 256) : (BitVec.ofNat 10 (0x200 + i)).toNat = 0x200 + i := by
    rw [BitVec.toNat_ofNat]; omega
  refine ⟨fun s => ⟨rfl, rfl, rfl, rfl, rfl, rfl, rfl, rfl, rfl, fun i hi => ⟨?_, ?_⟩⟩,
    fun s v moves => ⟨fun ha => step_write s offAddrHi v moves ha (by decide),
      fun ha => step_write s offAddrLo v moves ha (by decide), fun ha => step_write s offLen v moves ha (by decide),
      fun ha => step_write s offProcId v moves ha (by decide), fun ha => step_write s offTxlen v moves ha (by decide),
      fun i hi ha => ?_⟩, rfl, rfl⟩
  · rw [s.hostRead_txdata (isTxdata_iff.2 (by rw [tx i hi]; omega)), tx i hi, txBase, Nat.add_sub_cancel_left]
  · rw [s.hostRead_rxdata (isRxdata_iff.2 (by rw [rx i hi]; omega)), rx i hi, rxBase, Nat.add_sub_cancel_left]
  · have ht : isTxdata (BitVec.ofNat 10 (0x100 + i)) = true := isTxdata_iff.2 (by rw [tx i hi]; omega)
    rw [step_write s _ v moves ha (ne_of_nine_le (by rw [tx i hi]; omega) (by decide)), State.hostWrite_txdata _ v ht,
      tx i hi]
    rfl

/-- The offsets that ignore writes: two single registers, and everything from 9 up that is no `TXDATA` (R62). -/
theorem isIgnored_cases {off : Off} (h : isIgnored off = true) :
    off = offResult ∨ off = offRxlen ∨ (9 ≤ off.toNat ∧ ¬ isTxdata off = true) := by
  simp only [isIgnored, Bool.or_eq_true, beq_iff_eq, decide_eq_true_eq, isRxdata_iff] at h
  obtain (((h | h) | h) | h) | h := h
  · exact .inl h
  · exact .inr (.inl h)
  · exact .inr (.inr (by rw [isTxdata_iff]; omega))
  · exact .inr (.inr (by rw [isTxdata_iff]; omega))
  · exact .inr (.inr (by rw [isTxdata_iff]; omega))

theorem State.hostWrite_ignored (s : State) {off : Off} (v : Byte) (h : isIgnored off = true) :
    off ≠ offCmd ∧ s.hostWrite off v = s := by
  obtain rfl | rfl | ⟨hn, ht⟩ := isIgnored_cases h
  · exact ⟨by decide, rfl⟩
  · exact ⟨by decide, rfl⟩
  · exact ⟨ne_of_nine_le hn (by decide), by rw [s.hostWrite_of_nine_le v hn, if_neg ht]⟩

/-- Settles O47: no window covers a reserved offset, and an ignored write leaves the state as it is. -/
theorem ignoredOffsets : Obligations.IgnoredOffsets := by
  refine ⟨fun s off h => ?_, fun s off v moves hi ha => ?_⟩
  · rw [s.hostRead_of_nine_le (by omega), if_neg (by rw [isTxdata_iff]; omega), if_neg (by rw [isRxdata_iff]; omega)]
  · obtain ⟨hc, hw⟩ := (s.setAgenda moves).hostWrite_ignored v hi
    rw [step_write s off v moves ha hc, hw]
    rfl

/-- What the step of a parameter write leaves: the input at `off` is `v`, and `moves` are pending (R21, R64). -/
def State.writeInput (s : State) (off : Off) (v : Byte) (moves : List Move) : State :=
  { s with
    addrHi := if off = offAddrHi then v else s.addrHi
    addrLo := if off = offAddrLo then v else s.addrLo
    len := if off = offLen then v else s.len
    procId := if off = offProcId then v else s.procId
    txlen := if off = offTxlen then v else s.txlen
    mem := if isTxdata off = true then Memory.set s.mem off.toNat v else s.mem
    agenda := moves }

theorem isParam_cases {off : Off} (h : isParam off = true) : off = offAddrHi ∨ off = offAddrLo ∨ off = offLen ∨
    off = offProcId ∨ off = offTxlen ∨ isTxdata off = true := by
  simpa only [isParam, Bool.or_eq_true, beq_iff_eq, or_assoc] using h

theorem State.hostWrite_param (s : State) {off : Off} (v : Byte) (moves : List Move) (h : isParam off = true) :
    off ≠ offCmd ∧ (s.setAgenda moves).hostWrite off v = s.writeInput off v moves := by
  obtain rfl | rfl | rfl | rfl | rfl | ht := isParam_cases h
  · exact ⟨by decide, rfl⟩
  · exact ⟨by decide, rfl⟩
  · exact ⟨by decide, rfl⟩
  · exact ⟨by decide, rfl⟩
  · exact ⟨by decide, rfl⟩
  · have hr := isTxdata_iff.1 ht
    have hne {k : Off} (hk : k.toNat < 9) : off ≠ k := ne_of_nine_le (by omega) hk
    refine ⟨hne (by decide), ?_⟩
    rw [State.hostWrite_txdata _ v ht, State.writeInput, if_neg (hne (by decide)), if_neg (hne (by decide)),
      if_neg (hne (by decide)), if_neg (hne (by decide)), if_neg (hne (by decide)), if_pos ht]
    rfl

theorem step_writeInput (s : State) {off : Off} (v : Byte) (moves : List Move) (h : isParam off = true)
    (ha : s.agenda = .write off v :: moves) : step s = .next (s.writeInput off v moves) := by
  obtain ⟨hc, hw⟩ := s.hostWrite_param v moves h
  rw [step_write s off v moves ha hc, hw]

theorem State.hostRead_writeInput_same (s : State) {off : Off} (v : Byte) (moves : List Move) (h : isParam off = true) :
    (s.writeInput off v moves).hostRead off = v := by
  obtain rfl | rfl | rfl | rfl | rfl | ht := isParam_cases h
  · rfl
  · rfl
  · rfl
  · rfl
  · rfl
  · have hr := isTxdata_iff.1 ht
    have hat : txBase + (off.toNat - txBase) = off.toNat := by simp only [txBase]; omega
    rw [State.hostRead_txdata _ ht, State.txdata, hat, State.writeInput, if_pos ht, Memory.get_set_same,
      Option.getD_some]

/-- Every other cell of memory keeps its byte. -/
theorem State.get_writeInput_mem (s : State) {off : Off} (v : Byte) (moves : List Move) {a : Nat} (ha : a ≠ off.toNat) :
    Memory.get (s.writeInput off v moves).mem a = Memory.get s.mem a := by
  simp only [State.writeInput]
  split
  · exact Memory.get_set_other _ _ _ _ ha
  · rfl

theorem State.txdata_writeInput (s : State) {off : Off} (v : Byte) (moves : List Move) {i : Nat}
    (h : txBase + i ≠ off.toNat) : (s.writeInput off v moves).txdata i = s.txdata i := by
  rw [State.txdata, s.get_writeInput_mem v moves h]
  rfl

theorem State.rxdata_writeInput (s : State) {off : Off} (v : Byte) (moves : List Move) {i : Nat}
    (h : rxBase + i ≠ off.toNat) : (s.writeInput off v moves).rxdata i = s.rxdata i := by
  rw [State.rxdata, s.get_writeInput_mem v moves h]
  rfl

theorem State.hostRead_writeInput_other (s : State) {off other : Off} (v : Byte) (moves : List Move)
    (h : other ≠ off) : (s.writeInput off v moves).hostRead other = s.hostRead other := by
  have hn : other.toNat ≠ off.toNat := fun hn => h (BitVec.eq_of_toNat_eq hn)
  by_cases h9 : 9 ≤ other.toNat
  · rw [State.hostRead_of_nine_le _ h9, State.hostRead_of_nine_le _ h9]
    by_cases ht : isTxdata other = true
    · have := isTxdata_iff.1 ht
      rw [if_pos ht, if_pos ht, s.txdata_writeInput v moves (by simp only [txBase]; omega)]
    · rw [if_neg ht, if_neg ht]
      by_cases hr : isRxdata other = true
      · have := isRxdata_iff.1 hr
        rw [if_pos hr, if_pos hr, s.rxdata_writeInput v moves (by simp only [rxBase]; omega)]
      · rw [if_neg hr, if_neg hr]
  · obtain rfl | rfl | rfl | rfl | rfl | rfl | rfl | rfl | rfl := single_register_cases (Nat.lt_of_not_le h9)
    · exact Eq.refl s.cmd
    · exact Eq.refl s.status
    · exact Eq.refl (codeByte s.result)
    · exact if_neg h.symm
    · exact if_neg h.symm
    · exact if_neg h.symm
    · exact if_neg h.symm
    · exact if_neg h.symm
    · exact Eq.refl s.rxlen

/-- Settles O45: the write is `State.writeInput`, which touches the one input and no internal state. -/
theorem parameterWriteIsReadBack : Obligations.ParameterWriteIsReadBack := by
  intro s off v moves hp ha
  exact ⟨s.writeInput off v moves, step_writeInput s v moves hp ha, s.hostRead_writeInput_same v moves hp,
    fun other ho => s.hostRead_writeInput_other v moves ho, rfl, rfl, rfl, rfl, rfl, rfl, rfl, rfl, rfl⟩

end Sys2Proof.Machine
end

section
/-! Memory stays in canonical form (O56), and a parameter write commutes with a poll (O49): no operation of a poll reads
a parameter or a cell of `TXDATA`, and the bytes it posts lie above `TXDATA`. -/

namespace Sys2Proof.Machine

/-- Every instruction keeps the canonical form: it posts a run of bytes, or leaves memory as it is. -/
theorem exec_mem_wf {i : Instr} {s t : State} (h : exec i s = .next t) (hm : Memory.wf s.mem = true) :
    Memory.wf t.mem = true := by
  obtain hk | hk := exec_mem i s t h <;> rw [hk]
  · exact hm
  · exact Memory.setList_wf _ _ _ hm

/-- A poll that recognised nothing posts no byte. -/
theorem State.pollMiss_mem (u : State) (hc : u.ctl ≠ .idle) : u.pollMiss.mem = u.mem := by
  obtain ⟨-, code, ht⟩ | ⟨-, ht⟩ | ⟨ht, -⟩ := u.pollMiss_cases hc <;> rw [ht] <;> rfl

theorem State.PollLeadsTo.mem_wf {u t : State} {c : List Byte} (hp : u.PollLeadsTo c t) (hc : u.ctl ≠ .idle)
    (hm : Memory.wf u.mem = true) : Memory.wf t.mem = true := by
  obtain ⟨i, -, ht⟩ | ⟨-, rfl⟩ := hp
  · exact exec_mem_wf ht hm
  · rwa [u.pollMiss_mem hc]

/-- Settles O56: only a parameter write and a posting instruction write cells, and a reset drops them all. -/
theorem stepKeepsMemoryForm : Obligations.StepKeepsMemoryForm := by
  intro s t hm h
  obtain ⟨-, -, rfl⟩ | ⟨off, rest, -, rfl⟩ | ⟨rest, -, rfl⟩ | ⟨rest, -, rfl⟩ | ⟨off, v, rest, -, -, rfl⟩ |
    ⟨v, rest, -, rfl⟩ | ⟨c, rest, -, -, rfl⟩ | ⟨c, rest, -, hi, hp⟩ := step_cases s t h
  · exact hm
  · exact hm
  · exact hm
  · rfl
  · obtain ⟨-, -, -, -, -, -, -, -, -, -, -, -, -, -, -, -, hkeep, -⟩ := (s.setAgenda rest).hostWrite_frame off v
    exact hkeep hm
  · exact exec_mem_wf (exec_command _ v) hm
  · exact hm
  · exact State.PollLeadsTo.mem_wf hp (by simpa using hi) (by simpa using hm)

/-- Writes to two addresses commute on canonical memories. -/
theorem Memory.set_set_comm (m : List Host.Cell) (a b : Nat) (v w : Byte) (hm : Memory.wf m = true) (hab : a ≠ b) :
    Memory.set (Memory.set m a v) b w = Memory.set (Memory.set m b w) a v := by
  refine Memory.ext_get _ _ (Memory.set_wf _ _ _ (Memory.set_wf _ _ _ hm))
    (Memory.set_wf _ _ _ (Memory.set_wf _ _ _ hm)) fun x => ?_
  by_cases hxa : x = a
  · subst hxa
    rw [Memory.get_set_same, Memory.get_set_other _ _ _ _ hab, Memory.get_set_same]
  by_cases hxb : x = b
  · subst hxb
    rw [Memory.get_set_same, Memory.get_set_other _ _ _ _ hxa, Memory.get_set_same]
  · rw [Memory.get_set_other _ _ _ _ hxb, Memory.get_set_other _ _ _ _ hxa, Memory.get_set_other _ _ _ _ hxa,
      Memory.get_set_other _ _ _ _ hxb]

/-- A write below a run of bytes commutes with the run. -/
theorem Memory.setList_set_comm (p : List Byte) : ∀ (m : List Host.Cell) (a b : Nat) (v : Byte), Memory.wf m = true →
    a < b → Memory.setList (Memory.set m a v) b p = Memory.set (Memory.setList m b p) a v := by
  induction p with
  | nil => intros; rfl
  | cons w p ih =>
    intro m a b v hm hab
    rw [Memory.setList, Memory.set_set_comm m a b v w hm hab.ne, ih _ a (b + 1) v (Memory.set_wf m b w hm) (by omega),
      Memory.setList]

section
variable (s : State) (off : Off) (v : Byte) (moves : List Move)

@[simp] theorem State.writeInput_ctl : (s.writeInput off v moves).ctl = s.ctl := rfl
@[simp] theorem State.writeInput_attempt : (s.writeInput off v moves).attempt = s.attempt := rfl

/-- The completion action neither reads an input nor posts below `RXDATA` (R276). -/
theorem State.raiseOutcome_writeInput (code : Code) (p : List Byte) (hm : Memory.wf s.mem = true) :
    (s.writeInput off v moves).raiseOutcome code p = (s.raiseOutcome code p).writeInput off v moves := by
  have hmem : Memory.setList (if isTxdata off = true then Memory.set s.mem off.toNat v else s.mem) rxBase p =
      if isTxdata off = true then Memory.set (Memory.setList s.mem rxBase p) off.toNat v
      else Memory.setList s.mem rxBase p := by
    by_cases ht : isTxdata off = true
    · rw [if_pos ht, if_pos ht]
      exact Memory.setList_set_comm p _ _ rxBase v hm (isTxdata_iff.1 ht).2
    · rw [if_neg ht, if_neg ht]
  simp only [State.raiseOutcome, State.writeInput, hmem]

theorem State.completeXch_writeInput (out : DecOutcome) (hm : Memory.wf s.mem = true) :
    (s.writeInput off v moves).completeXch out = (s.completeXch out).writeInput off v moves := by
  rw [State.completeXch_eq, State.completeXch_eq]
  exact s.raiseOutcome_writeInput off v moves _ _ hm

theorem State.onResponse_writeInput (r : Response) (hm : Memory.wf s.mem = true) :
    (s.writeInput off v moves).onResponse r = (s.onResponse r).writeInput off v moves := by
  rw [State.onResponse_eq, State.onResponse_eq]
  exact (s.truncate r).completeXch_writeInput off v moves _ hm

theorem State.polled_writeInput (c : List Byte) :
    (s.writeInput off v moves).polled c = (s.polled c).writeInput off v moves := by
  by_cases hx : s.ctl = .xch
  · rw [State.polled_xch s c hx, State.polled_xch (s.writeInput off v moves) c hx]; rfl
  · rw [State.polled_stage s c hx, State.polled_stage (s.writeInput off v moves) c hx]; rfl

theorem State.recognise_writeInput (c : List Byte) : (s.writeInput off v moves).recognise c = s.recognise c := rfl

theorem State.pollMiss_writeInput (hm : Memory.wf s.mem = true) :
    (s.writeInput off v moves).pollMiss = s.pollMiss.writeInput off v moves := by
  have hfault (code : Code) := (s.setSession .faulted).raiseOutcome_writeInput off v moves code [] hm
  unfold State.pollMiss
  rw [State.writeInput_ctl, State.writeInput_attempt]
  cases s.ctl with
  | idle => rfl
  | hsEnq =>
    dsimp only
    split
    · exact hfault .hsFailEnq
    · rfl
  | hsStart =>
    dsimp only
    split
    · exact hfault .hsFailStart
    · rfl
  | xch =>
    dsimp only
    split
    · exact s.raiseOutcome_writeInput off v moves .timeout [] hm
    · rfl

/-- A row that runs `f` where it is recognised, and else changes nothing, commutes with the write if `f` does. -/
theorem State.next_ite_writeInput (f : State → State) (b : Prop) [Decidable b]
    (hf : f (s.writeInput off v moves) = (f s).writeInput off v moves) :
    (.next (if b then f (s.writeInput off v moves) else s.writeInput off v moves) : Host.Outcome State Fault Refusal) =
      .next ((if b then f s else s).writeInput off v moves) := by
  split
  · rw [hf]
  · rfl

end

/-- A row recognised in a poll does not read the inputs. -/
theorem exec_writeInput_of_recognise {u t : State} {c : List Byte} {i : Instr} (hi : u.recognise c = some i)
    (ht : exec i u = .next t) (hm : Memory.wf u.mem = true) (off : Off) (v : Byte) (moves : List Move) :
    exec i (u.writeInput off v moves) = .next (t.writeInput off v moves) := by
  obtain ⟨-, rfl, -⟩ | ⟨-, rfl, -⟩ | ⟨-, -, rfl, -⟩ | ⟨-, -, rfl, -⟩ | ⟨-, -, r, -, -, rfl⟩ :=
    u.recognise_some c i hi <;> cases ht
  · exact u.next_ite_writeInput off v moves State.onEnq _ rfl
  · exact u.next_ite_writeInput off v moves State.onHsAck _
      ((u.setSession .ready).raiseOutcome_writeInput off v moves .ok [] hm)
  · exact u.next_ite_writeInput off v moves (State.completeXch · .nack) _ (u.completeXch_writeInput off v moves _ hm)
  · exact u.next_ite_writeInput off v moves (State.completeXch · .framingError) _
      (u.completeXch_writeInput off v moves _ hm)
  · exact u.next_ite_writeInput off v moves (State.onResponse · r) _ (u.onResponse_writeInput off v moves r hm)

/-- A poll goes the same way whether the input was written before it or is written after it (R69). -/
theorem State.PollLeadsTo.writeInput {u t : State} {c : List Byte} (hp : u.PollLeadsTo c t)
    (hm : Memory.wf u.mem = true) (off : Off) (v : Byte) (moves : List Move) :
    (u.writeInput off v moves).PollLeadsTo c (t.writeInput off v moves) := by
  obtain ⟨i, hi, ht⟩ | ⟨hi, rfl⟩ := hp
  · exact .inl ⟨i, hi, exec_writeInput_of_recognise hi ht hm off v moves⟩
  · exact .inr ⟨hi, (u.pollMiss_writeInput off v moves hm).symm⟩

theorem State.PollLeadsTo.agenda_eq {u t : State} {c : List Byte} (hp : u.PollLeadsTo c t) (hc : u.ctl ≠ .idle) :
    t.agenda = u.agenda := by
  obtain ⟨-, rfl⟩ | ⟨-, v, code, -, rfl⟩ | ⟨-, w, code, p, rfl | ⟨r, rfl⟩, -, rfl⟩ | ⟨rfl, -⟩ :=
    u.poll_cases t c hc hp
  · rfl
  · rfl
  · rfl
  · rfl
  · rfl

/-- Every poll ends somewhere. -/
theorem State.exists_pollLeadsTo (u : State) (c : List Byte) : ∃ t, u.PollLeadsTo c t := by
  cases hr : u.recognise c with
  | none => exact ⟨_, .inr ⟨hr, rfl⟩⟩
  | some i =>
    obtain ⟨t, ht⟩ := exec_answers i u
    exact ⟨t, .inl ⟨i, hr, ht⟩⟩

theorem step_of_pollLeadsTo {s t : State} {c : List Byte} {moves : List Move} (hc : s.ctl ≠ .idle)
    (ha : s.agenda = .poll c :: moves) (hp : ((s.setAgenda moves).polled c).PollLeadsTo c t) : step s = .next t := by
  rw [step_poll s c moves hc ha]
  obtain ⟨i, hi, ht⟩ | ⟨hi, rfl⟩ := hp
  · rw [hi]; exact ht
  · rw [hi]

theorem step_poll_idle {s : State} {c : List Byte} {moves : List Move} (hc : s.ctl = .idle)
    (ha : s.agenda = .poll c :: moves) : step s = .next (s.setAgenda moves) := by
  simp [step, State.fetch, ha, State.fetchPoll, hc]

/-- Settles O49: both orders end in the poll's end state with the input written. -/
theorem inputsAreLatched : Obligations.InputsAreLatched := by
  intro s off v chunk moves hm ho
  have hw (rest : List Move) : step (s.setAgenda (.write off v :: rest)) = .next (s.writeInput off v rest) :=
    step_writeInput _ v rest ho rfl
  by_cases hi : s.ctl = .idle
  · rw [State.after_pair (hw _) (step_poll_idle hi rfl),
      State.after_pair (step_poll_idle hi rfl) (step_writeInput _ v moves ho rfl)]
    rfl
  · obtain ⟨t, ht⟩ := ((s.setAgenda (.write off v :: moves)).polled chunk).exists_pollLeadsTo chunk
    have hta : t.agenda = .write off v :: moves := (ht.agenda_eq (by simpa using hi)).trans (by simp)
    have hpw := ht.writeInput (by simpa using hm) off v moves
    rw [← State.polled_writeInput] at hpw
    rw [State.after_pair (hw _) (step_of_pollLeadsTo hi rfl hpw),
      State.after_pair (step_of_pollLeadsTo hi rfl ht) (step_writeInput t v moves ho hta)]

end Sys2Proof.Machine
end

section
/-! Where the engine transmits (O59): the record of each kind of step, and which of them send. A command byte written to
`CMD` runs its command (O13). -/

namespace Sys2Proof.Machine

/-- From `s` to `t` the transport record grows by at most one `TxWrite`, and by one only if `p` holds of what was added. -/
def State.SendsOnceIf (s t : State) (p : List Event → Prop) : Prop :=
  ∃ new : List Event, t.history = s.history ++ new ∧ (sent new).length ≤ 1 ∧ (sent new ≠ [] → p new)

theorem State.SendsOnceIf.silent {s t : State} {p : List Event → Prop} (new : List Event)
    (h : t.history = s.history ++ new) (hn : sent new = []) : s.SendsOnceIf t p :=
  ⟨new, h, by simp [hn], fun hs => absurd hn hs⟩

theorem State.SendsOnceIf.of_history_eq {s t : State} {p : List Event → Prop} (h : t.history = s.history) :
    s.SendsOnceIf t p :=
  .silent [] (by simpa using h) rfl

/-- An accepted command sends at most once, and only if it is one of the five, which then waits or is CLOSE (R75). -/
theorem acceptOf_sends (v : Byte) (s : State) : s.SendsOnceIf (acceptOf v s)
    fun _ => isCommandOpcode v = true ∧ ((acceptOf v s).ctl ≠ .idle ∨ v = 0x11#8) := by
  obtain ⟨code, ht⟩ | ht | ⟨rfl, ht⟩ | ⟨rfl, ht⟩ | ⟨hv, -, l, o, ht⟩ | ⟨rfl, -, l, ht⟩ := acceptOf_cases v s <;> rw [ht]
  · exact .of_history_eq rfl
  · exact .silent [.clr] rfl rfl
  · exact ⟨[.tx encEot], rfl, Nat.le_refl 1, fun _ => ⟨rfl, .inr rfl⟩⟩
  · exact ⟨[.clr, .tx encEot], by simp, Nat.le_refl 1, fun _ => ⟨rfl, .inl (by simp)⟩⟩
  · refine ⟨[.clr, .tx l], by simp, Nat.le_refl 1, fun _ => ⟨?_, .inl (by simp)⟩⟩
    obtain rfl | rfl := hv <;> rfl
  · exact ⟨[.clr, .tx l], by simp, Nat.le_refl 1, fun _ => ⟨rfl, .inl (by simp)⟩⟩

/-- A command byte sends only if the engine is idle and accepts it (R220). -/
theorem State.dispatch_sends (s : State) (v : Byte) : s.SendsOnceIf (s.dispatch v (acceptOf v)) fun _ =>
    s.ctl = .idle ∧ isCommandOpcode v = true ∧ ((s.dispatch v (acceptOf v)).ctl ≠ .idle ∨ v = 0x11#8) := by
  by_cases hi : s.ctl = .idle
  · rw [State.dispatch_idle _ _ _ hi]
    obtain ⟨new, hh, hl, hp⟩ := acceptOf_sends v (s.preamble v)
    exact ⟨new, hh, hl, fun hn => ⟨hi, hp hn⟩⟩
  · rw [State.dispatch_busy _ _ _ hi]
    exact .of_history_eq rfl

/-- A miss only counts, or ends the wait. -/
theorem State.pollMiss_history (u : State) (hc : u.ctl ≠ .idle) : u.pollMiss.history = u.history := by
  obtain ⟨-, code, ht⟩ | ⟨-, ht⟩ | ⟨ht, -⟩ := u.pollMiss_cases hc <;> rw [ht] <;> rfl

/-- Once its bytes are read, a poll leaves the record as it is, or ends the ENQ stage with START-VS2 (R225). -/
theorem State.PollLeadsTo.history_cases {u t : State} {c : List Byte} (hp : u.PollLeadsTo c t) (hc : u.ctl ≠ .idle) :
    t.history = u.history ∨
    (u.ctl = .hsEnq ∧ t.ctl = .hsStart ∧ 0x05#8 ∈ c ∧ t.history = u.history ++ [.clr, .tx encStart]) := by
  obtain ⟨i, hi, ht⟩ | ⟨-, rfl⟩ := hp
  · obtain ⟨he, hm, rfl⟩ | ⟨-, -, rfl⟩ | ⟨-, rfl | rfl | ⟨r, out, -, -, rfl⟩⟩ := u.exec_recognised t c i hi ht
    · exact .inr ⟨he, rfl, hm, by simp⟩
    · exact .inl rfl
    · exact .inl rfl
    · exact .inl rfl
    · rw [State.completeXch_eq]; exact .inl rfl
  · exact .inl (u.pollMiss_history hc)

/-- Settles O59: of the steps of `step_cases` only a `CMD` write and a poll can send: `State.dispatch_sends`,
`State.PollLeadsTo.history_cases`. -/
theorem transmitsOnlyWhereAllowed : Obligations.TransmitsOnlyWhereAllowed := by
  intro s t h
  change s.SendsOnceIf t _
  obtain ⟨-, -, rfl⟩ | ⟨off, rest, -, rfl⟩ | ⟨rest, -, rfl⟩ | ⟨rest, -, rfl⟩ | ⟨off, v, rest, -, -, rfl⟩ |
    ⟨v, rest, ha, rfl⟩ | ⟨c, rest, -, -, rfl⟩ | ⟨c, rest, -, hi, hp⟩ := step_cases s t h
  · exact .of_history_eq rfl
  · exact .of_history_eq rfl
  · exact .of_history_eq rfl
  · exact .of_history_eq rfl
  · obtain ⟨-, -, -, -, -, -, -, -, -, -, -, hhistory, -⟩ := (s.setAgenda rest).hostWrite_frame off v
    exact .of_history_eq hhistory
  · obtain ⟨new, hh, hl, hsend⟩ := (s.setAgenda rest).tickUp.dispatch_sends v
    refine ⟨new, hh, hl, fun hn => .inl ?_⟩
    obtain ⟨hi, hv, ht⟩ := hsend hn
    exact ⟨hi, v, rest, ha, hv, ht⟩
  · exact .of_history_eq rfl
  · obtain hh | ⟨he, ht, hm, hh⟩ := State.PollLeadsTo.history_cases hp (by simpa using hi)
    · exact .silent [.rx c] (by simpa using hh) rfl
    · exact ⟨[.rx c, .clr, .tx encStart], by simpa using hh, Nat.le_refl 1,
        fun _ => .inr ⟨by simpa using he, ht, c, hm, rfl⟩⟩

/-- The step of a write to `CMD` (R220). -/
theorem step_command (s : State) (v : Byte) (moves : List Move) (ha : s.agenda = .write offCmd v :: moves) :
    step s = exec (decodeCommand v) (s.setAgenda moves).tickUp := by
  simp [step, State.fetch, ha, State.fetchWrite]

/-- Settles O13: the command port reads the first byte, whatever follows. -/
theorem stepRunsTheCommand : Obligations.StepRunsTheCommand := by
  intro s v rest tail moves i ha hd
  obtain ⟨rfl, -⟩ : decodeCommand v = i ∧ tail = rest := by simpa [decode] using hd
  exact step_command s v moves ha

end Sys2Proof.Machine
end

section
/-! The encodings of the instruction set (O10, O11): what each port decodes, read off the front of any bytes, and what it
re-encodes to. -/

namespace Sys2Proof.Machine

/-! ### Byte lists -/

theorem countByte_eq_of_toNat {b : Byte} {n : Nat} (h : b.toNat = n) : countByte n = b := by
  rw [← h, countByte_of_byte]

/-- A byte list that starts with `v` is `v` and the bytes after it. -/
theorem cons_drop_of_byteAt {l : List Byte} {v : Byte} (hl : l ≠ []) (h0 : byteAt l 0 = v) : v :: l.drop 1 = l := by
  match l, hl with
  | _ :: _, _ => exact congrArg (· :: _) h0.symm

/-- A slice is its first byte and the slice after it. -/
theorem byteAt_cons_slice (l : List Byte) (a b : Nat) (ha : a < b) (hl : a < l.length) :
    byteAt l a :: slice l (a + 1) b = slice l a b := by
  have ht : a < (l.take b).length := by simp; omega
  rw [slice, slice, List.drop_eq_getElem_cons ht, List.getElem_take, byteAt_lt l a hl]

/-- A list of `n + 1` bytes from index `a` up: a slice and the last byte. -/
theorem slice_append_byteAt (l : List Byte) (a n : Nat) (ha : a ≤ n) (hl : l.length = n + 1) :
    slice l a n ++ [byteAt l n] = l.drop a := by
  rw [byteAt_lt l n (by omega), slice, ← List.drop_append_of_le_length (by simp; omega), List.take_append_getElem,
    List.take_of_length_le (by omega)]

/-! ### Commands -/

/-- Whatever opcode is written to `CMD`, the command it decodes to is encoded as that opcode (R106, R107). -/
theorem encode_decodeCommand (v : Byte) : encode (decodeCommand v) = [v] := by
  unfold decodeCommand
  repeat' split
  all_goals subst_vars; rfl

theorem decodeCommand_port (v : Byte) : (decodeCommand v).port = .command := by
  unfold decodeCommand
  repeat' split
  all_goals rfl

theorem decodeCommand_wf (v : Byte) : (decodeCommand v).wf = true := by
  unfold decodeCommand
  repeat' split
  all_goals simp [Instr.wf, isCommandOpcode, *]

/-! ### Requests -/

/-- The seven header bytes of a request, read off its front (R93). -/
theorem header_append_drop (l : List Byte) (h : 7 ≤ l.length) :
    [byteAt l 0, byteAt l 1, byteAt l 2, byteAt l 3, byteAt l 4, byteAt l 5, byteAt l 6] ++ l.drop 7 = l := by
  match l, h with
  | _ :: _ :: _ :: _ :: _ :: _ :: _ :: _, _ => rfl

/-- What follows a request's last data byte is outside its summed range (R131, R137). -/
theorem checksum_reqBody_append (fc : Byte) (a : Addr) (bl : Byte) (d x : List Byte) (h : 5 + d.length ≤ 255) :
    checksum (reqBody fc a bl d ++ x) = checksum (reqBody fc a bl d) := by
  simp only [reqBody, List.cons_append, List.nil_append, checksum, checksumRange_stx, payloadLen_toNat _ h, slice_zero]
  simp [show 5 + d.length + 1 = d.length + 6 by omega, List.take_succ_cons]

/-- The data of a built request are read back from index 7 up (R93). -/
theorem slice_encReq_data (fc : Byte) (a : Addr) (bl : Byte) (d : List Byte) :
    slice (encReq fc a bl d) 7 (5 + d.length + 2) = d := by
  rw [show 5 + d.length + 2 = d.length + 7 by omega]
  simp [encReq, reqBody]

/-- A whole telegram whose header says it is a request and whose last byte is its checksum is what the encoder builds of
its fields (R93, R98, R150). -/
theorem eq_encReq_of_checks {t : List Byte} {p : Nat} (hl : t.length = p + 3) (h0 : byteAt t 0 = 0x41#8)
    (h1 : (byteAt t 1).toNat = p) (hp : 5 ≤ p) (h2 : byteAt t 2 = 0x00#8) (hc : checksum t = byteAt t (p + 2)) :
    t = encReq (byteAt t 3) (joinAddr (byteAt t 4) (byteAt t 5)) (byteAt t 6) (slice t 7 (p + 2)) := by
  have hlt := (byteAt t 1).isLt
  have hd : 5 + (slice t 7 (p + 2)).length = p := by rw [slice_length]; omega
  have hbody : t = reqBody (byteAt t 3) (joinAddr (byteAt t 4) (byteAt t 5)) (byteAt t 6) (slice t 7 (p + 2)) ++
      [byteAt t (p + 2)] := by
    rw [reqBody, List.append_assoc, slice_append_byteAt t 7 _ (by omega) hl, hd, hi8_joinAddr, lo8_joinAddr, ← h0, ← h2,
      countByte_eq_of_toNat h1, header_append_drop t (by omega)]
  have hsum := checksum_reqBody_append (byteAt t 3) (joinAddr (byteAt t 4) (byteAt t 5)) (byteAt t 6)
    (slice t 7 (p + 2)) [byteAt t (p + 2)] (by omega)
  rw [encReq, ← hsum, ← hbody, hc]
  exact hbody

/-- The three FunctionCodes a request can have, each with what its PayloadLen and BlockLen must be (R94, R99, R102). -/
theorem decodeRequestFields_eq_ok {t : List Byte} {p : Nat} {i : Instr} : decodeRequestFields t p = .ok i ↔
    (byteAt t 3 = 0x01#8 ∧ p = 5 ∧ i = .txReadReq (joinAddr (byteAt t 4) (byteAt t 5)) (byteAt t 6)) ∨
    (byteAt t 3 = 0x02#8 ∧ (byteAt t 6).toNat + 5 = p ∧
      i = .txWriteReq (joinAddr (byteAt t 4) (byteAt t 5)) (slice t 7 (p + 2))) ∨
    (byteAt t 3 = 0x07#8 ∧ 6 ≤ p ∧ (byteAt t 6).toNat + 5 = p ∧
      i = .txRpcReq (joinAddr (byteAt t 4) (byteAt t 5)) (byteAt t 7) (slice t 8 (p + 2))) := by
  unfold decodeRequestFields
  by_cases h1 : byteAt t 3 = 0x01#8
  · by_cases hp : p = 5 <;> simp [h1, hp, eq_comm]
  by_cases h2 : byteAt t 3 = 0x02#8
  · by_cases hb : (byteAt t 6).toNat + 5 = p <;> simp [h2, hb, eq_comm]
  by_cases h7 : byteAt t 3 = 0x07#8
  · by_cases hp : p < 6
    · simp [h7, hp, Nat.not_le.2 hp]
    · by_cases hb : (byteAt t 6).toNat + 5 = p <;> simp [h7, hp, hb, Nat.not_lt.1 hp, eq_comm]
  · simp [h1, h2, h7]

/-- The checks a whole request passes before its FunctionCode is read (R92, R98, R150). -/
theorem decodeRequest_eq_ok {t : List Byte} {p : Nat} {i : Instr} : decodeRequest t p = .ok i ↔
    5 ≤ p ∧ byteAt t 2 = 0x00#8 ∧ checksum t = byteAt t (p + 2) ∧ decodeRequestFields t p = .ok i := by
  unfold decodeRequest
  by_cases hp : p < 5
  · simp [hp, Nat.not_le.2 hp]
  by_cases h2 : byteAt t 2 = 0x00#8
  · by_cases hc : checksum t = byteAt t (p + 2) <;> simp [hp, h2, hc, Nat.not_lt.1 hp]
  · simp [hp, h2]

/-- What a whole request decodes to is well-formed and encoded as that request (R94, R102, R154). -/
theorem decodeRequest_sound {t : List Byte} {p : Nat} {i : Instr} (hl : t.length = p + 3) (h0 : byteAt t 0 = 0x41#8)
    (h1 : (byteAt t 1).toNat = p) (h : decodeRequest t p = .ok i) :
    i.wf = true ∧ i.port = .transmit ∧ encode i = t := by
  have hlt := (byteAt t 1).isLt
  obtain ⟨hp, h2, hc, hf⟩ := decodeRequest_eq_ok.1 h
  have ht := eq_encReq_of_checks hl h0 h1 hp h2 hc
  have hd : (slice t 7 (p + 2)).length = p - 5 := by rw [slice_length]; omega
  obtain ⟨h3, rfl, rfl⟩ | ⟨h3, hb, rfl⟩ | ⟨h3, hp6, hb, rfl⟩ := decodeRequestFields_eq_ok.1 hf
  · refine ⟨rfl, rfl, ?_⟩
    rw [h3, List.eq_nil_of_length_eq_zero hd] at ht
    exact ht.symm
  · have hbl : countByte (slice t 7 (p + 2)).length = byteAt t 6 := countByte_eq_of_toNat (by omega)
    refine ⟨(writeLengthOk_iff _).2 (by omega), rfl, ?_⟩
    rw [encode, encWrite, hbl, ← h3]
    exact ht.symm
  · have hargs := byteAt_cons_slice t 7 (p + 2) (by omega) (by omega)
    have ha : (slice t 8 (p + 2)).length = p - 6 := by rw [slice_length]; omega
    have hbl : countByte (1 + (slice t 8 (p + 2)).length) = byteAt t 6 := countByte_eq_of_toNat (by omega)
    refine ⟨(rpcLengthOk_iff _).2 (by omega), rfl, ?_⟩
    rw [encode, encRpc, hbl, hargs, ← h3]
    exact ht.symm

/-- What the transmit port decodes is well-formed and encoded as the bytes consumed (R91, R93, R103). -/
theorem decodeTransmit_sound {bs rest : List Byte} {i : Instr} (h : decodeTransmit bs = .ok (i, rest)) :
    i.wf = true ∧ i.port = .transmit ∧ encode i ++ rest = bs := by
  unfold decodeTransmit at h
  split at h
  · cases h
  split at h
  next hne h0 =>
    cases h
    exact ⟨rfl, rfl, cons_drop_of_byteAt hne h0⟩
  split at h
  · split at h
    next h3 =>
      cases h
      refine ⟨rfl, rfl, ?_⟩
      rw [encode, ← h3, List.take_append_drop]
    · cases h
  split at h
  next h0 =>
    simp only at h
    split at h
    · cases h
    next hn =>
    cases hr : decodeRequest (bs.take ((byteAt bs 1).toNat + 3)) (byteAt bs 1).toNat with
    | error e => simp [hr] at h
    | ok j =>
      obtain ⟨rfl, rfl⟩ : j = i ∧ bs.drop ((byteAt bs 1).toNat + 3) = rest := by simpa [hr] using h
      obtain ⟨hw, hp, he⟩ := decodeRequest_sound (by rw [List.length_take]; omega)
        ((byteAt_take bs _ 0 (by omega)).trans h0) (by rw [byteAt_take bs _ 1 (by omega)]) hr
      exact ⟨hw, hp, by rw [he, List.take_append_drop]⟩
  · cases h

/-- A built request whose fields are read back is read back from the front of any bytes (R93, R150). -/
theorem decodeTransmit_encReq_of_fields {fc : Byte} {a : Addr} {bl : Byte} {d : List Byte} {i : Instr} (rest : List Byte)
    (h : 5 + d.length ≤ 255) (hf : decodeRequestFields (encReq fc a bl d) (5 + d.length) = .ok i) :
    decodeTransmit (encReq fc a bl d ++ rest) = .ok (i, rest) := by
  rw [decodeTransmit_encReq fc a bl d rest h, hf]

/-- The address is read back from indices 4 and 5 of a built request (R94, R101). -/
theorem joinAddr_encReq (fc : Byte) (a : Addr) (bl : Byte) (d : List Byte) :
    joinAddr (byteAt (encReq fc a bl d) 4) (byteAt (encReq fc a bl d) 5) = a := joinAddr_hi_lo a

theorem decodeTransmit_encRead (a : Addr) (l : Byte) (rest : List Byte) :
    decodeTransmit (encRead a l ++ rest) = .ok (.txReadReq a l, rest) := by
  refine decodeTransmit_encReq_of_fields rest (by simp) (decodeRequestFields_eq_ok.2 (.inl ⟨rfl, rfl, ?_⟩))
  rw [joinAddr_encReq]
  rfl

theorem decodeTransmit_encWrite (a : Addr) (d rest : List Byte) (h : d.length ≤ 250) :
    decodeTransmit (encWrite a d ++ rest) = .ok (.txWriteReq a d, rest) := by
  have hbl : (countByte d.length).toNat + 5 = 5 + d.length := by rw [countByte_toNat]; omega
  refine decodeTransmit_encReq_of_fields rest (by omega) (decodeRequestFields_eq_ok.2 (.inr (.inl ⟨rfl, hbl, ?_⟩)))
  rw [joinAddr_encReq, slice_encReq_data]

theorem decodeTransmit_encRpc (a : Addr) (pid : Byte) (m rest : List Byte) (h : m.length ≤ 249) :
    decodeTransmit (encRpc a pid m ++ rest) = .ok (.txRpcReq a pid m, rest) := by
  have hm : (pid :: m).length = m.length + 1 := rfl
  have hbl : (countByte (1 + m.length)).toNat + 5 = 5 + (pid :: m).length := by rw [countByte_toNat]; omega
  refine decodeTransmit_encReq_of_fields rest (by omega)
    (decodeRequestFields_eq_ok.2 (.inr (.inr ⟨rfl, by omega, hbl, ?_⟩)))
  have hs := slice_encReq_data 0x07#8 a (countByte (1 + m.length)) (pid :: m)
  rw [← byteAt_cons_slice _ 7 _ (by omega) (by rw [encReq_length]; omega)] at hs
  obtain ⟨hpid, hargs⟩ := List.cons.inj hs
  rw [joinAddr_encReq, hpid, hargs]

/-! ### Classified responses -/

theorem encode_classifyResponse (r : Response) : encode (classifyResponse r) = responseBytes r := by
  unfold classifyResponse
  repeat' split
  all_goals rfl

theorem classifyResponse_port (r : Response) : (classifyResponse r).port = .classified := by
  unfold classifyResponse
  repeat' split
  all_goals rfl

theorem classifyResponse_wf (r : Response) (h : r.wf = true) : (classifyResponse r).wf = true := by
  unfold classifyResponse
  split
  next hc => simp only [Instr.wf, h, hc, Bool.not_false, Bool.and_self]
  next hc =>
    rw [Bool.not_eq_false] at hc
    split
    next he => simp only [Instr.wf, h, hc, he, Bool.and_self]
    next he => simp only [Instr.wf, h, hc, he, Bool.not_false, Bool.and_self]

/-- A response is of one byte's PayloadLen wherever it was split off (R92). -/
theorem splitResponse_wf {bs rest : List Byte} {r : Response} (h : splitResponse bs = some (r, rest)) : r.wf = true := by
  obtain ⟨-, -, -, -, hl, -⟩ := splitResponse_some bs rest r h
  have := (byteAt bs 2).isLt
  exact (Response.wf_iff r).2 (by omega)

/-- A complete response is read back at the classified port as its one outcome row (R192 to R194). -/
theorem decode_classified_responseBytes (r : Response) (rest : List Byte) (h : r.wf = true) :
    decode .classified (responseBytes r ++ rest) = .ok (classifyResponse r, rest) := by
  have hs := splitResponse_responseBytes r rest ((Response.wf_iff r).1 h)
  have h0 : byteAt (responseBytes r ++ rest) 0 = 0x06#8 := rfl
  have h1 : byteAt (responseBytes r ++ rest) 1 = 0x41#8 := rfl
  simp [decode, h0, h1, hs]

/-- A well-formed outcome row is the one its response is classified as. -/
theorem eq_classifyResponse_of_port {i : Instr} (hw : i.wf = true) (hp : i.port = .classified) :
    ∃ r : Response, r.wf = true ∧ i = classifyResponse r := by
  cases i with
  | rxResponseChecksumError r =>
    simp only [Instr.wf, Bool.and_eq_true, Bool.not_eq_true'] at hw
    exact ⟨r, hw.1, by simp [classifyResponse, hw.2]⟩
  | rxResponseDeviceError r =>
    simp only [Instr.wf, Bool.and_eq_true] at hw
    obtain ⟨⟨hr, hc⟩, he⟩ := hw
    exact ⟨r, hr, by simp [classifyResponse, hc, he]⟩
  | rxResponseSuccess r =>
    simp only [Instr.wf, Bool.and_eq_true, Bool.not_eq_true'] at hw
    obtain ⟨⟨hr, hc⟩, he⟩ := hw
    exact ⟨r, hr, by simp [classifyResponse, hc, he]⟩
  | _ => cases hp

/-! ### Every port -/

/-- Settles O10, port by port: a command by its opcode, a request by its fields, a response by its split. -/
theorem decodeOfEncode : Obligations.DecodeOfEncode := by
  intro i rest hw
  have command (hp : i.port = .command) : decode .command (encode i ++ rest) = .ok (i, rest) := by
    obtain ⟨v, rfl⟩ := eq_decodeCommand_of_port hw hp
    rw [encode_decodeCommand]
    rfl
  have classified (hp : i.port = .classified) : decode .classified (encode i ++ rest) = .ok (i, rest) := by
    obtain ⟨r, hr, rfl⟩ := eq_classifyResponse_of_port hw hp
    rw [encode_classifyResponse, decode_classified_responseBytes r rest hr]
  cases i with
  | read | write | rpc | handshake | close | reserved => exact command rfl
  | txReadReq a l => exact decodeTransmit_encRead a l rest
  | txWriteReq a d => exact decodeTransmit_encWrite a d rest ((writeLengthOk_iff _).1 hw)
  | txRpcReq a pid m => exact decodeTransmit_encRpc a pid m rest ((rpcLengthOk_iff _).1 hw)
  | txEot | txStartVs2 | rxNack => rfl
  | rxEnq | rxHsAck => simp [decode, encode, Instr.port]
  | rxFraming second third =>
    have hs : second ≠ 0x41#8 := by simpa [Instr.wf] using hw
    simp [decode, encode, Instr.port, hs]
  | rxResponse r =>
    simp [decode, encode, Instr.port, splitResponse_responseBytes r rest ((Response.wf_iff r).1 hw)]
  | rxResponseChecksumError | rxResponseDeviceError | rxResponseSuccess => exact classified rfl

/-- Settles O11, port by port; the transmit port is `decodeTransmit_sound`. -/
theorem decodeIsSound : Obligations.DecodeIsSound := by
  intro p bs rest i h
  cases p with
  | command =>
    cases bs with
    | nil => cases h
    | cons v tail =>
      cases h
      exact ⟨decodeCommand_wf v, decodeCommand_port v, fun _ => by rw [encode_decodeCommand]; rfl⟩
  | transmit =>
    obtain ⟨hw, hp, he⟩ := decodeTransmit_sound h
    exact ⟨hw, hp, fun _ => he⟩
  | enqStage =>
    simp only [decode] at h
    split_ifs at h
    cases h
    exact ⟨rfl, rfl, by simp⟩
  | startStage =>
    simp only [decode] at h
    split_ifs at h
    cases h
    exact ⟨rfl, rfl, by simp⟩
  | awaitAck =>
    simp only [decode] at h
    split_ifs at h with hne _ h0
    cases h
    exact ⟨rfl, rfl, fun _ => cons_drop_of_byteAt hne h0⟩
  | awaitStx =>
    simp only [decode] at h
    split_ifs at h with _ h1
    cases h
    exact ⟨by simpa [Instr.wf] using h1, rfl, by simp⟩
  | awaitBody =>
    cases hs : splitResponse bs with
    | none => simp [decode, hs] at h
    | some q =>
      simp only [decode, hs] at h
      cases h
      exact ⟨splitResponse_wf hs, rfl, by simp⟩
  | classified =>
    simp only [decode] at h
    split_ifs at h with hb
    simp only [ne_eq, not_or, not_not] at hb
    cases hs : splitResponse bs with
    | none => simp [hs] at h
    | some q =>
      simp only [hs] at h
      cases h
      refine ⟨classifyResponse_wf _ (splitResponse_wf hs), classifyResponse_port _, fun _ => ?_⟩
      obtain ⟨-, -, -, -, -, hrest⟩ := splitResponse_some _ _ _ hs
      obtain ⟨he, -⟩ := responseBytes_split _ _ _ hb.1 hb.2 hs
      rw [encode_classifyResponse, he, hrest, List.take_append_drop]

end Sys2Proof.Machine
end

section
/-! The host line WRITE (O50): its parameter writes put address, data and count where the command reads them. -/

namespace Sys2Proof.Machine

theorem State.setAgenda_setAgenda (s : State) (l m : List Move) : (s.setAgenda l).setAgenda m = s.setAgenda m := rfl

/-- Register writes do not look at the pending moves. -/
theorem State.hostWrite_setAgenda (s : State) (off : Off) (v : Byte) (l : List Move) :
    (s.setAgenda l).hostWrite off v = (s.hostWrite off v).setAgenda l := by
  unfold State.hostWrite
  repeat' split
  all_goals rfl

/-- A run whose first move is a write to a register other than `CMD` (R64). -/
theorem State.after_write (s : State) {off : Off} (v : Byte) (ms moves : List Move) (ho : off ≠ offCmd) :
    s.after (.write off v :: ms) moves = (s.hostWrite off v).after ms moves := by
  have hs := step_write (s.setAgenda (.write off v :: (ms ++ moves))) off v (ms ++ moves) rfl ho
  rw [State.setAgenda_setAgenda, State.hostWrite_setAgenda] at hs
  exact State.after_cons s ((s.hostWrite off v).setAgenda (ms ++ moves)) _ ms moves hs rfl

/-- The `TXDATA` writes of a line put its bytes in a row from `TXDATA[k]` up (R26, R109). -/
theorem State.after_txWrites (data : List Byte) : ∀ (s : State) (k : Nat) (ms moves : List Move), k + data.length ≤ 256 →
    s.after (txWrites k data ++ ms) moves =
      State.after { s with mem := Memory.setList s.mem (txBase + k) data } ms moves := by
  induction data with
  | nil => intros; rfl
  | cons d ds ih =>
    intro s k ms moves hk
    rw [List.length_cons] at hk
    have hn : (txOff k).toNat = txBase + k := by rw [txOff, BitVec.toNat_ofNat, txBase]; omega
    have ht : isTxdata (txOff k) = true := isTxdata_iff.2 (by rw [hn, txBase]; omega)
    rw [txWrites, List.cons_append, s.after_write d _ moves (ne_of_nine_le (by rw [hn, txBase]; omega) (by decide)),
      State.hostWrite_txdata s d ht, ih _ _ _ _ (by omega), hn]
    rfl

/-- Bytes put in a row from `TXDATA[0]` up, with their count in `TXLEN`, are what a command reads (R108). -/
theorem State.txBytes_of_setList {s : State} {m : List Host.Cell} {data : List Byte} (hd : data.length ≤ 255)
    (hm : s.mem = Memory.setList m txBase data) (hl : s.txlen = countByte data.length) : s.txBytes = data := by
  have hn : s.txlen.toNat = data.length := by rw [hl, countByte_toNat]; omega
  refine List.ext_getElem (by simp [State.txBytes, hn]) fun i _ hi => ?_
  simp [State.txBytes, State.txdata, hm, Memory.get_setList_inside data m txBase i hi]

/-- A WRITE whose data fit clears, sends its request, and waits in an exchange (R229). -/
theorem State.acceptWrite_of_ready {s : State} (hs : s.session = .ready) (hl : s.txlen.toNat ≤ 250) :
    s.acceptWrite = (sendWrite s.addr s.txBytes s.rxClear).startExchange .write := by
  rw [State.acceptWrite, if_pos hs, if_pos ((writeLengthOk_iff _).2 hl)]

/-- The run of one WRITE command, met idle in a ready session (R220, R229). -/
theorem State.after_writeCommand (s : State) (moves : List Move) (hc : s.ctl = .idle) (hs : s.session = .ready)
    (hl : s.txlen.toNat ≤ 250) : s.after [.write offCmd 0x02#8] moves =
      .next ((sendWrite s.addr s.txBytes ((s.setAgenda moves).tickUp.preamble 0x02#8).rxClear).startExchange .write) := by
  have haccept : acceptOf 0x02#8 ((s.setAgenda moves).tickUp.preamble 0x02#8) =
      (sendWrite s.addr s.txBytes ((s.setAgenda moves).tickUp.preamble 0x02#8).rxClear).startExchange .write :=
    State.acceptWrite_of_ready hs hl
  have hstep := step_command (s.setAgenda (.write offCmd 0x02#8 :: moves)) 0x02#8 moves rfl
  rw [exec_command, State.dispatch_idle _ _ _ (by exact hc), State.setAgenda_setAgenda, haccept] at hstep
  exact s.after_cons _ (.write offCmd 0x02#8) [] moves hstep rfl

/-- The inputs of a WRITE as its line leaves them: address, data from `TXDATA[0]` up, and their count (R109). -/
def State.withWriteInputs (s : State) (a : Addr) (data : List Byte) : State :=
  { s with
    addrHi := hi8 a
    addrLo := lo8 a
    txlen := countByte data.length
    mem := Memory.setList s.mem txBase data }

/-- A WRITE line sets its inputs, and then writes `CMD` (R109). -/
theorem State.after_writeLine (s : State) (a : Addr) (data : List Byte) (moves : List Move) (hd : data.length ≤ 256) :
    s.after (HostLine.write a data).expand moves =
      (s.withWriteInputs a data).after [.write offCmd 0x02#8] moves := by
  rw [HostLine.expand, addrWrites, List.append_assoc, List.cons_append, List.cons_append, List.nil_append,
    State.after_write _ _ _ _ (by decide), State.after_write _ _ _ _ (by decide),
    State.after_txWrites _ _ _ _ _ (by omega), State.after_write _ _ _ _ (by decide)]
  rfl

/-- Settles O50: the line's inputs by `State.after_writeLine`, its command by `State.after_writeCommand`. -/
theorem writeLineSendsItsTelegram : Obligations.WriteLineSendsItsTelegram := by
  intro s a data moves hc hs hd
  have hl : (countByte data.length).toNat ≤ 250 := by rw [countByte_toNat]; omega
  have haddr : (s.withWriteInputs a data).addr = a := joinAddr_hi_lo a
  have hdata : (s.withWriteInputs a data).txBytes = data := State.txBytes_of_setList (by omega) rfl rfl
  have hcommand := (s.withWriteInputs a data).after_writeCommand moves hc hs hl
  rw [haddr, hdata] at hcommand
  exact ⟨_, (s.after_writeLine a data moves (by omega)).trans hcommand, rfl, rfl,
    List.append_assoc s.history [.clr] [.tx (encWrite a data)], rfl, rfl, rfl, rfl, hs⟩

end Sys2Proof.Machine
end

section
/-! The layouts of the request kinds (O8), sample words (O12), and received rows outside their state (O31). -/

namespace Sys2Proof.Machine

/-- A request that fits ends in the sum of everything between STX and its last byte (R93, R131). -/
theorem encReq_eq (fc : Byte) (a : Addr) (bl : Byte) (d : List Byte) (h : 5 + d.length ≤ 255) :
    encReq fc a bl d = [0x41#8, countByte (5 + d.length), 0x00#8, fc, hi8 a, lo8 a, bl] ++ d ++
      [sum8 ([countByte (5 + d.length), 0x00#8, fc, hi8 a, lo8 a, bl] ++ d)] := by
  rw [encReq, checksum_reqBody fc a bl d h]
  rfl

/-- Settles O8: the three kinds are `encReq_eq` at their FunctionCode, BlockLen and data. -/
theorem requestLayouts : Obligations.RequestLayouts := by
  refine ⟨fun a l => ⟨encReq_eq 0x01#8 a l [] (by decide), encReq_length _ _ _ _⟩,
    fun a d hd => ⟨encReq_eq 0x02#8 a _ d (by omega), encReq_length _ _ _ _⟩, fun a pid m hm => ?_⟩
  have hp : 5 + (pid :: m).length = 6 + m.length := by rw [List.length_cons]; omega
  have he := encReq_eq 0x07#8 a (countByte (1 + m.length)) (pid :: m) (by omega)
  rw [hp] at he
  refine ⟨he, ?_⟩
  rw [encRpc, encReq_length, List.length_cons]
  omega

/-- Settles O12: the decoder is run on each of the ten words. -/
theorem decodeSampleWords : Obligations.DecodeSampleWords := by
  unfold Obligations.DecodeSampleWords
  decide

/-- The exchange decoder is not in state `d` (R104). -/
theorem State.inXch_ne_true {s : State} {d : Dec} (h : s.ctl ≠ .xch ∨ s.dec ≠ d) : ¬ s.inXch d = true := by
  rw [State.inXch_eq]
  tauto

/-- Settles O31: every received row tests its control and decoder state first. -/
theorem rowsOutsideTheirState : Obligations.RowsOutsideTheirState := by
  refine ⟨fun s h => ?_, fun s h => ?_, fun s h => ?_, fun s x y h => ?_, fun s r h => ?_, fun s r h => ⟨?_, ?_, ?_⟩⟩
  · exact congrArg _ (if_neg h)
  · exact congrArg _ (if_neg h)
  all_goals exact congrArg _ (if_neg (State.inXch_ne_true h))

end Sys2Proof.Machine
end

section
/-! The checksum: its two cases (O1, O2, O7), the lists it does not sum (O3, O4), the sum (O5) and the accumulator (O6). -/

namespace Sys2Proof.Machine

/-! ### The sum and the accumulator -/

/-- The order of the summed bytes does not matter (R135). -/
theorem sum8_eq_of_perm {l m : List Byte} (h : l.Perm m) : sum8 l = sum8 m :=
  congrArg (BitVec.ofNat 8) (h.map BitVec.toNat).sum_eq

/-- The sum of `n` copies of a byte is `n` times the byte. -/
theorem sum8_replicate (n : Nat) (b : Byte) : sum8 (List.replicate n b) = BitVec.ofNat 8 (n * b.toNat) := by
  rw [sum8, List.map_replicate, List.sum_replicate, smul_eq_mul]

/-- 256 copies of a byte add 0 (R135). -/
theorem sum8_replicate_256 (b : Byte) : sum8 (List.replicate 256 b) = 0#8 := by
  apply BitVec.eq_of_toNat_eq
  rw [sum8_replicate, BitVec.toNat_ofNat]
  exact Nat.mul_mod_right 256 b.toNat

/-- Settles O5: the definition of `sum8`, `sum8_eq_of_perm` and `sum8_replicate_256`. -/
theorem checksumArithmetic : Obligations.ChecksumArithmetic := by
  refine ⟨fun l => BitVec.toNat_ofNat _ _, fun l m h => sum8_eq_of_perm h, fun l b => ?_⟩
  rw [sum8_append, sum8_replicate_256, BitVec.add_zero]

/-- A list with a summed range has that range's sum as checksum (R131, R132). -/
theorem checksum_of_range {buf r : List Byte} (h : checksumRange buf = some r) : checksum buf = sum8 r := by
  rw [checksum, h]

/-- A list without a summed range has checksum 0 (R133, R134). -/
theorem checksum_of_no_range {buf : List Byte} (h : checksumRange buf = none) : checksum buf = 0x00#8 := by
  rw [checksum, h]

/-- The accumulator run over a summed range is left in `CSUM` (R136). -/
theorem csumAfter_of_range {buf r : List Byte} (before : Byte) (h : checksumRange buf = some r) :
    csumAfter before buf = accumulate r := by
  rw [csumAfter, h]

/-- Without a summed range the accumulator is not run (R136). -/
theorem csumAfter_of_no_range {buf : List Byte} (before : Byte) (h : checksumRange buf = none) :
    csumAfter before buf = before := by
  rw [csumAfter, h]

/-- Settles O6: what the accumulator adds up is `sum8` of the range (`accumulate_eq`), and so is the checksum. -/
theorem accumulatorGivesChecksum : Obligations.AccumulatorGivesChecksum := by
  refine ⟨rfl, fun l b => List.foldl_append, fun before buf r h => ?_,
    fun before buf h => ⟨checksum_of_no_range h, csumAfter_of_no_range before h⟩⟩
  have hsum : accumulate r = checksum buf := (accumulate_eq r).trans (checksum_of_range h).symm
  exact ⟨hsum, (csumAfter_of_range before h).trans hsum⟩

/-! ### The two cases, by index and by shape -/

/-- The STX case by indices (R131). -/
theorem checksum_eq_of_stx {buf : List Byte} (hl : 2 ≤ buf.length) (h0 : byteAt buf 0 = 0x41#8) :
    checksum buf = sum8 (slice buf 1 ((byteAt buf 1).toNat + 2)) :=
  checksum_of_range (if_pos ⟨hl, h0⟩)

/-- The ACK case by indices (R132). -/
theorem checksum_eq_of_ack {buf : List Byte} (hl : 3 ≤ buf.length) (h0 : byteAt buf 0 = 0x06#8) :
    checksum buf = sum8 (slice buf 2 ((byteAt buf 2).toNat + 3)) := by
  have hne : byteAt buf 0 ≠ 0x41#8 := by rw [h0]; decide
  exact checksum_of_range ((if_neg fun h => hne h.2).trans (if_pos ⟨hl, h0⟩))

/-- The STX case sums PayloadLen and at most that many bytes after it (R131, R134). -/
theorem checksum_stx_cons (p : Byte) (l : List Byte) : checksum (0x41#8 :: p :: l) = sum8 (p :: l.take p.toNat) := by
  rw [checksum_of_range (checksumRange_stx p l), slice_zero, List.take_succ_cons]

/-- The ACK case sums the byte at index 2 and at most that many bytes after it (R132, R134). -/
theorem checksum_ack_cons (x d : Byte) (l : List Byte) :
    checksum (0x06#8 :: x :: d :: l) = sum8 (d :: l.take d.toNat) := by
  rw [checksum_of_range (checksumRange_ack x d l), slice_zero, List.take_succ_cons]

/-- Settles O7: in both cases the length byte and the summed slice lie in the telegram (`slice_append_left`). -/
theorem checksumIgnoresTrailingBytes : Obligations.ChecksumIgnoresTrailingBytes := by
  refine ⟨fun t x h => ?_, by decide⟩
  have hlen : t.length ≤ (t ++ x).length := by rw [List.length_append]; omega
  obtain ⟨hl, h0, hr⟩ | ⟨hl, h0, hr⟩ := h
  · have hb0 : byteAt (t ++ x) 0 = 0x41#8 := (byteAt_append_left t x 0 (by omega)).trans h0
    rw [checksum_eq_of_stx (hl.trans hlen) hb0, checksum_eq_of_stx hl h0, byteAt_append_left t x 1 (by omega),
      slice_append_left t x _ _ hr]
  · have hb0 : byteAt (t ++ x) 0 = 0x06#8 := (byteAt_append_left t x 0 (by omega)).trans h0
    rw [checksum_eq_of_ack (hl.trans hlen) hb0, checksum_eq_of_ack hl h0, byteAt_append_left t x 2 (by omega),
      slice_append_left t x _ _ hr]

/-- The checksum of a request stands behind its data, and is the sum of everything between (R93, R131). -/
theorem byteAt_encReq_check (fc : Byte) (a : Addr) (bl : Byte) (d : List Byte) (h : 5 + d.length ≤ 255) :
    byteAt (encReq fc a bl d) (5 + d.length + 2) =
      sum8 ([countByte (5 + d.length), 0x00#8, fc, hi8 a, lo8 a, bl] ++ d) := by
  have hi : 5 + d.length + 2 = (reqBody fc a bl d).length := by simp [reqBody]; omega
  rw [encReq, hi, byteAt_append_right _ _ _ le_rfl, Nat.sub_self, byteAt_zero, checksum_reqBody fc a bl d h]
  rfl

/-- Settles O1: the case by indices and by shape, and the place of the checksum in a request. -/
theorem checksumStxCase : Obligations.ChecksumStxCase := by
  refine ⟨fun buf hl h0 => checksum_eq_of_stx hl h0, fun p body tail h => ?_, fun fc bl addr data h => ?_,
    by decide, by decide⟩
  · rw [checksum_stx_cons, ← h, List.take_left]
  · have h1 : byteAt (encReq fc addr bl data) 1 = countByte (5 + data.length) := rfl
    rw [h1, payloadLen_toNat _ h, byteAt_encReq_check fc addr bl data h]

/-- Settles O2: the ACK case by indices and by shape; without the ACK, the STX case sums the same bytes. -/
theorem checksumAckCase : Obligations.ChecksumAckCase := by
  refine ⟨fun buf hl h0 => checksum_eq_of_ack hl h0, fun x d body tail h => ?_, fun d tail => ?_, by decide⟩
  · rw [checksum_ack_cons, ← h, List.take_left]
  · rw [checksum_ack_cons, checksum_stx_cons]

/-! ### Lists with no summed range, and short ranges -/

/-- Only a first byte 0x41 or 0x06 has a summed range (R133). -/
theorem checksumRange_of_other {buf : List Byte} (h1 : byteAt buf 0 ≠ 0x41#8) (h6 : byteAt buf 0 ≠ 0x06#8) :
    checksumRange buf = none :=
  (if_neg fun h => h1 h.2).trans (if_neg fun h => h6 h.2)

/-- Settles O3: `checksumRange_of_other`, and the first bytes of what the encoder and the decoder sum. -/
theorem checksumElseZero : Obligations.ChecksumElseZero := by
  refine ⟨?_, fun fc bl addr data => rfl, fun r => rfl, by decide, by decide⟩
  rintro buf (rfl | ⟨h1, h6⟩)
  · exact checksum_of_no_range rfl
  · exact checksum_of_no_range (checksumRange_of_other h1 h6)

/-- Settles O4: a length byte that is not there, a range past the end (`checksum_stx_cons`, `checksum_ack_cons`), and
the ranges of built requests and whole responses. -/
theorem checksumShortLists : Obligations.ChecksumShortLists := by
  refine ⟨by decide, by decide, fun x => checksum_of_no_range rfl, fun p body h => ?_, fun x d body h => ?_,
    fun fc bl addr data h => ?_, fun r h => ?_, by decide, by decide⟩
  · rw [checksum_stx_cons, List.take_of_length_le h]
  · rw [checksum_ack_cons, List.take_of_length_le h]
  · have h1 : byteAt (reqBody fc addr bl data) 1 = countByte (5 + data.length) := rfl
    have hlen : (reqBody fc addr bl data).length = 7 + data.length := by simp [reqBody]; omega
    rw [h1, payloadLen_toNat _ h, hlen]
    omega
  · have h2 : byteAt (responseBytes r) 2 = countByte r.body.length := rfl
    rw [h2, countByte_toNat, responseBytes_length]
    omega

end Sys2Proof.Machine
end

section
/-! Built requests end in their checksum (O9); the request rows (O25) and the control rows (O26) on the wire. -/

namespace Sys2Proof.Machine

/-! ### Built requests -/

/-- A request that fits ends in its own checksum, and is three bytes longer than its PayloadLen byte says (R158). -/
theorem encReq_endsInChecksum (fc : Byte) (a : Addr) (bl : Byte) (d : List Byte) (h : 5 + d.length ≤ 255) :
    checksum (encReq fc a bl d) = (encReq fc a bl d).getLastD 0 ∧
      (encReq fc a bl d).length = (byteAt (encReq fc a bl d) 1).toNat + 3 := by
  have hlast : (encReq fc a bl d).getLastD 0 = checksum (reqBody fc a bl d) := List.getLastD_concat
  have hlen : byteAt (encReq fc a bl d) 1 = countByte (5 + d.length) := rfl
  refine ⟨(checksum_encReq fc a bl d h).trans hlast.symm, ?_⟩
  rw [hlen, payloadLen_toNat _ h, encReq_length]
  omega

/-- Settles O9: the three kinds are `encReq_endsInChecksum` at data that fit; a call's data are its procedure id and its
arguments. -/
theorem requestsEndInTheirChecksum : Obligations.RequestsEndInTheirChecksum :=
  ⟨fun _ _ => encReq_endsInChecksum _ _ _ _ (by decide),
    fun _ _ _ => encReq_endsInChecksum _ _ _ _ (by omega),
    fun _ _ _ _ => encReq_endsInChecksum _ _ _ _ (by rw [List.length_cons]; omega)⟩

/-! ### The rows that send -/

/-- Sending a request that fits records its telegram and leaves its checksum in `CSUM` (R71, R136): the accumulator runs
over the telegram without its last byte. -/
theorem State.sendRequest_encReq (s : State) (fc : Byte) (a : Addr) (bl : Byte) (d : List Byte) (h : 5 + d.length ≤ 255) :
    s.sendRequest (encReq fc a bl d) =
      { s with history := s.history ++ [.tx (encReq fc a bl d)], csum := checksum (encReq fc a bl d) } := by
  rw [State.sendRequest, State.runCsum, encReq_dropLast, csumAfter_reqBody _ _ _ _ _ h]
  rfl

/-- Settles O25: each row is `sendRequest_encReq`, guarded by the length check of its kind (R154). -/
theorem requestRowsAreSent : Obligations.RequestRowsAreSent := by
  refine ⟨fun s a l => congrArg Host.Outcome.next ?_, fun s a d => congrArg Host.Outcome.next ?_,
    fun s a pid m => congrArg Host.Outcome.next ?_⟩
  · exact s.sendRequest_encReq _ a l [] (by decide)
  · exact ite_congr (propext (writeLengthOk_iff d.length)) (fun _ => s.sendRequest_encReq _ a _ d (by omega))
      fun _ => rfl
  · exact ite_congr (propext (rpcLengthOk_iff m.length))
      (fun _ => s.sendRequest_encReq _ a _ (pid :: m) (by rw [List.length_cons]; omega)) fun _ => rfl

/-- Settles O26: both rows are one `TxWrite` of a fixed sequence (R155, R156). -/
theorem controlRowsAreSent : Obligations.ControlRowsAreSent := fun _ => ⟨rfl, rfl⟩

end Sys2Proof.Machine
end

section
/-! The decoder as a function of the buffer: what R196's `DECODE` leaves when it waits, and that bytes past the capacity
of `RXBUF` change no outcome (O43). -/

namespace Sys2Proof.Machine

/-! ### What a waiting decoder holds -/

/-- The bytes that led the decoder to `d` stand at the front of the buffer (R184, R188). -/
def Dec.Reached : Dec → List Byte → Prop
  | .awaitAck, _ => True
  | .awaitStx, buf => 0 < buf.length ∧ byteAt buf 0 = 0x06#8
  | .awaitBody, buf => 2 < buf.length ∧ byteAt buf 0 = 0x06#8 ∧ byteAt buf 1 = 0x41#8
  | .done, _ => False

/-- The decoder in state `d` has made every move the buffer allows, and waits for more bytes (R183, R186, R187, R190). -/
def Dec.Awaits : Dec → List Byte → Prop
  | .awaitAck, buf => buf = [] ∨ (byteAt buf 0 ≠ 0x06#8 ∧ byteAt buf 0 ≠ 0x15#8)
  | .awaitStx, buf => 0 < buf.length ∧ buf.length ≤ 2 ∧ byteAt buf 0 = 0x06#8
  | .awaitBody, buf => 2 < buf.length ∧ byteAt buf 0 = 0x06#8 ∧ byteAt buf 1 = 0x41#8 ∧
      buf.length < (byteAt buf 2).toNat + 4
  | .done, _ => False

theorem byteAt_appendRx (buf chunk : List Byte) {i : Nat} (hi : i < buf.length) (hc : i < 259) :
    byteAt (appendRx buf chunk) i = byteAt buf i :=
  (byteAt_take _ _ _ hc).trans (byteAt_append_left _ _ _ hi)

theorem lt_length_appendRx (buf chunk : List Byte) {i : Nat} (hi : i < buf.length) (hc : i < 259) :
    i < (appendRx buf chunk).length := by
  rw [appendRx, List.length_take, List.length_append, config_rxbufCap]
  omega

/-- `APPEND` leaves the front of the buffer as it was (R181). -/
theorem Dec.Awaits.reached_appendRx {d : Dec} {buf : List Byte} (h : d.Awaits buf) (chunk : List Byte) :
    d.Reached (appendRx buf chunk) := by
  cases d with
  | awaitAck => trivial
  | awaitStx =>
    obtain ⟨hl, -, h0⟩ := h
    exact ⟨lt_length_appendRx buf chunk hl (by decide), (byteAt_appendRx buf chunk hl (by decide)).trans h0⟩
  | awaitBody =>
    obtain ⟨hl, h0, h1, -⟩ := h
    exact ⟨lt_length_appendRx buf chunk hl (by decide),
      (byteAt_appendRx buf chunk (by omega) (by decide)).trans h0,
      (byteAt_appendRx buf chunk (by omega) (by decide)).trans h1⟩
  | done => exact h

/-! ### `DECODE` without an outcome -/

theorem refBody_awaits {buf : List Byte} (h : Dec.awaitBody.Reached buf) (hn : (refBody buf).2.2 = none) :
    (refBody buf).1.Awaits (refBody buf).2.1 := by
  obtain ⟨hl, h0, h1⟩ := h
  unfold refBody at hn ⊢
  dsimp only at hn ⊢
  split at hn
  next hlt => rw [if_pos hlt]; exact ⟨hl, h0, h1, hlt⟩
  next => split at hn <;> [skip; split at hn] <;> cases hn

theorem refStx_awaits {buf : List Byte} (h : Dec.awaitStx.Reached buf) (hn : (refStx buf).2.2 = none) :
    (refStx buf).1.Awaits (refStx buf).2.1 := by
  obtain ⟨hl, h0⟩ := h
  unfold refStx at hn ⊢
  split at hn
  next h2 => rw [if_pos h2]; exact ⟨hl, h2, h0⟩
  next h2 =>
    rw [if_neg h2]
    split at hn
    next h1 => rw [if_pos h1]; exact refBody_awaits ⟨by omega, h0, h1⟩ hn
    next => cases hn

theorem refAck_awaits {buf : List Byte} (hn : (refAck buf).2.2 = none) : (refAck buf).1.Awaits (refAck buf).2.1 := by
  unfold refAck at hn ⊢
  split at hn
  next he => rw [if_pos he]; exact .inl he
  next he =>
    rw [if_neg he]
    split at hn
    next h6 => rw [if_pos h6]; exact refStx_awaits ⟨List.length_pos_iff.2 he, h6⟩ hn
    next h6 =>
      rw [if_neg h6]
      split at hn
      next => cases hn
      next h15 => rw [if_neg h15]; exact .inr ⟨h6, h15⟩

/-- A `DECODE` that yields no outcome has made every move its buffer allows (R196). -/
theorem refDecode_awaits {d : Dec} {buf : List Byte} (h : d.Reached buf) (hn : (refDecode d buf).2.2 = none) :
    (refDecode d buf).1.Awaits (refDecode d buf).2.1 := by
  cases d with
  | awaitAck => exact refAck_awaits hn
  | awaitStx => exact refStx_awaits h hn
  | awaitBody => exact refBody_awaits h hn
  | done => exact h.elim

/-! ### `DECODE` and the capacity -/

/-- No telegram reaches past byte 259, so AWAIT_BODY does not see a cut there (R103, R190). -/
theorem refBody_take (buf : List Byte) :
    refBody (buf.take 259) = Prod.map id (Prod.map (List.take 259) id) (refBody buf) := by
  have hd : (byteAt buf 2).toNat < 256 := (byteAt buf 2).isLt
  have h2 : byteAt (buf.take 259) 2 = byteAt buf 2 := byteAt_take buf 259 2 (by decide)
  have hl : (buf.take 259).length < (byteAt buf 2).toNat + 4 ↔ buf.length < (byteAt buf 2).toNat + 4 := by
    rw [List.length_take]; omega
  have hcut : (buf.take 259).take ((byteAt buf 2).toNat + 4) = buf.take ((byteAt buf 2).toNat + 4) := by
    rw [List.take_take, min_eq_left (by omega)]
  have hcap : (buf.take ((byteAt buf 2).toNat + 4)).take 259 = buf.take ((byteAt buf 2).toNat + 4) := by
    rw [List.take_take, min_eq_right (by omega)]
  unfold refBody
  simp only [h2, hl, hcut]
  split
  · rfl
  · split <;> [skip; split] <;> simp only [Prod.map_apply, id, hcap]

theorem refStx_take (buf : List Byte) :
    refStx (buf.take 259) = Prod.map id (Prod.map (List.take 259) id) (refStx buf) := by
  have h1 : byteAt (buf.take 259) 1 = byteAt buf 1 := byteAt_take buf 259 1 (by decide)
  have hl : (buf.take 259).length ≤ 2 ↔ buf.length ≤ 2 := by rw [List.length_take]; omega
  unfold refStx
  simp only [h1, hl, refBody_take]
  split <;> [skip; split] <;> rfl

theorem refAck_take (buf : List Byte) :
    refAck (buf.take 259) = Prod.map id (Prod.map (List.take 259) id) (refAck buf) := by
  have h0 : byteAt (buf.take 259) 0 = byteAt buf 0 := byteAt_take buf 259 0 (by decide)
  have he : buf.take 259 = [] ↔ buf = [] := by rw [List.take_eq_nil_iff]; simp
  unfold refAck
  simp only [h0, he, refStx_take]
  split <;> [skip; split <;> [skip; split]] <;> rfl

/-- `DECODE` on a buffer cut to 259 bytes moves and answers as on the whole buffer. -/
theorem refDecode_take (d : Dec) (buf : List Byte) :
    refDecode d (buf.take 259) = Prod.map id (Prod.map (List.take 259) id) (refDecode d buf) := by
  cases d with
  | awaitAck => exact refAck_take buf
  | awaitStx => exact refStx_take buf
  | awaitBody => exact refBody_take buf
  | done => rfl

/-- The decoder of capacity 259 simulates every larger one: its buffer is the larger one's first 259 bytes. -/
theorem refOutcome_take {cap : Nat} (hcap : 259 ≤ cap) (chunks : List (List Byte)) : ∀ (d : Dec) (buf : List Byte),
    refOutcome 259 d (buf.take 259) chunks = refOutcome cap d buf chunks := by
  induction chunks with
  | nil => intros; rfl
  | cons c cs ih =>
    intro d buf
    have hfeed : (buf.take 259 ++ c).take 259 = ((buf ++ c).take cap).take 259 := by
      rw [List.take_take, min_eq_left hcap, List.take_append, List.take_append, List.take_take, Nat.min_self,
        List.length_take]
      congr 2
      omega
    rw [refOutcome, refOutcome, hfeed, refDecode_take]
    obtain ⟨d', buf', _ | out⟩ := refDecode d ((buf ++ c).take cap)
    · exact ih d' buf'
    · rfl

/-- Settles O43: the simulation `refOutcome_take`, from the empty buffer. -/
theorem capacityLosesNothing : Obligations.CapacityLosesNothing :=
  fun chunks _ hcap => (refOutcome_take hcap chunks .awaitAck []).symm

end Sys2Proof.Machine
end

section
/-! One poll of an exchange, as `DECODE` answers it; while an exchange waits, `DEC` says what `RXBUF` holds (O55); a
leading NACK (O37) and a leading noise byte (O41). -/

namespace Sys2Proof.Machine

/-! ### The decoder's invariant -/

/-- In an exchange the buffer is what its decoder state awaits more bytes on. -/
theorem State.decInv_iff (s : State) : s.DecInv ↔ (s.ctl = .xch → s.dec.Awaits s.rxbuf) := by
  constructor
  · rintro ⟨hdone, hack, hstx, hbody⟩ hx
    cases hd : s.dec with
    | awaitAck => exact hack hx hd
    | awaitStx => exact hstx hx hd
    | awaitBody => exact hbody hx hd
    | done => exact hdone hx hd
  · intro h
    refine ⟨fun hx hd => ?_, fun hx hd => ?_, fun hx hd => ?_, fun hx hd => ?_⟩ <;>
      exact (congrArg (Dec.Awaits · s.rxbuf) hd).mp (h hx)

/-- The decoder's invariant looks at three fields. -/
theorem State.DecInv.congr {s t : State} (h : s.DecInv) (hctl : t.ctl = s.ctl) (hdec : t.dec = s.dec)
    (hrxbuf : t.rxbuf = s.rxbuf) : t.DecInv := by
  rw [State.decInv_iff] at h ⊢
  rwa [hctl, hdec, hrxbuf]

/-- Outside an exchange the decoder's state says nothing. -/
theorem State.decInv_of_ctl_ne {s : State} (h : s.ctl ≠ .xch) : s.DecInv :=
  s.decInv_iff.2 fun hx => absurd hx h

/-- An exchange begins with nothing received (R228, R229, R230). -/
theorem State.startExchange_decInv (s : State) (o : Op) : (s.startExchange o).DecInv :=
  (State.decInv_iff _).2 fun _ => .inl rfl

/-! ### One poll -/

@[simp] theorem State.polled_op (s : State) (c : List Byte) : (s.polled c).op = s.op := by
  unfold State.polled; split <;> rfl

@[simp] theorem State.polled_latchLen (s : State) (c : List Byte) : (s.polled c).latchLen = s.latchLen := by
  unfold State.polled; split <;> rfl

/-- The miss of an exchange's poll (R234). -/
theorem State.pollMiss_xch {u : State} (hx : u.ctl = .xch) :
    u.pollMiss = if u.attempt = 300 then u.raiseOutcome .timeout [] else u := by
  unfold State.pollMiss
  rw [hx]
  rfl

/-- After a poll of an exchange, recogniser and `DECODE` agree on the appended buffer. -/
theorem State.DecInv.polled_agrees {s : State} (h : s.DecInv) (hx : s.ctl = .xch) (c : List Byte) :
    (s.polled c).Agrees c (refDecode s.dec (appendRx s.rxbuf c)) := by
  have hr := (s.decInv_iff.1 h hx).reached_appendRx c
  refine State.recognise_refDecode _ c s.dec _ (by simpa) (by simp [hx]) (by simp [s.polled_xch c hx]) ?_ ?_ ?_ <;>
    intro hd <;> rw [hd] at hr <;> exact hr

/-- A poll whose bytes yield no outcome is a miss, and leaves what `DECODE` left. -/
theorem State.DecInv.poll_of_none {s : State} (h : s.DecInv) (hx : s.ctl = .xch) {c : List Byte}
    (hn : (refDecode s.dec (appendRx s.rxbuf c)).2.2 = none) :
    refDecode s.dec (appendRx s.rxbuf c) = ((s.polled c).dec, (s.polled c).rxbuf, none) ∧
      (s.polled c).PollLeadsTo c (s.polled c).pollMiss := by
  obtain ⟨hr, href⟩ | ⟨out, -, href, -⟩ | ⟨r, out, -, href, -⟩ := h.polled_agrees hx c
  · exact ⟨href, .inr ⟨hr, rfl⟩⟩
  · simp [href] at hn
  · simp [href] at hn

/-- A poll whose bytes yield an outcome posts it; a complete response leaves its checksum in `CSUM` (R235). -/
theorem State.DecInv.poll_of_some {s : State} (h : s.DecInv) (hx : s.ctl = .xch) {c : List Byte} {out : DecOutcome}
    (ho : (refDecode s.dec (appendRx s.rxbuf c)).2.2 = some out) :
    ∃ k : Byte, (s.polled c).PollLeadsTo c
      ({ s.polled c with csum := k }.raiseOutcome (refPost s.op s.latchLen out).1 (refPost s.op s.latchLen out).2) := by
  obtain ⟨-, href⟩ | ⟨out', -, href, i, hi, ht⟩ | ⟨r, out', -, href, -, hi, ht⟩ := h.polled_agrees hx c
  · simp [href] at ho
  all_goals
    obtain rfl : out' = out := by simpa [href] using ho
    rw [State.completeXch_eq] at ht
    rw [← s.polled_op c, ← s.polled_latchLen c]
  · exact ⟨(s.polled c).csum, .inl ⟨i, hi, ht⟩⟩
  · exact ⟨((s.polled c).truncate r).csum, .inl ⟨_, hi, ht⟩⟩

/-- A poll of an exchange that recognised nothing keeps the decoder's invariant. -/
theorem State.DecInv.polled_of_recognise_none {s : State} (h : s.DecInv) (hx : s.ctl = .xch) {c : List Byte}
    (hr : (s.polled c).recognise c = none) : (s.polled c).DecInv := by
  obtain ⟨-, href⟩ | ⟨out, -, -, i, hi, -⟩ | ⟨r, out, -, -, -, hi, -⟩ := h.polled_agrees hx c
  · have hw := refDecode_awaits ((s.decInv_iff.1 h hx).reached_appendRx c) (by rw [href])
    rw [href] at hw
    exact (State.decInv_iff _).2 fun _ => hw
  · simp [hr] at hi
  · simp [hr] at hi

/-! ### Every step keeps the invariant -/

/-- An accepted command completes, begins a handshake or begins an exchange. -/
theorem acceptOf_decInv (v : Byte) (s : State) : (acceptOf v s).DecInv := by
  obtain ⟨code, ht⟩ | ht | ⟨-, ht⟩ | ⟨-, ht⟩ | ⟨-, -, l, o, ht⟩ | ⟨-, -, l, ht⟩ := acceptOf_cases v s <;> rw [ht]
  · exact State.decInv_of_ctl_ne (by simp)
  · exact State.decInv_of_ctl_ne (by simp)
  · exact State.decInv_of_ctl_ne (by simp)
  · exact State.decInv_of_ctl_ne (by simp)
  · exact State.startExchange_decInv _ o
  · exact ((s.rxClear.sendRequest l).startExchange_decInv .read).congr rfl rfl rfl

theorem State.DecInv.dispatch {s : State} (h : s.DecInv) (v : Byte) : (s.dispatch v (acceptOf v)).DecInv := by
  by_cases hi : s.ctl = .idle
  · rw [State.dispatch_idle _ _ _ hi]
    exact acceptOf_decInv v _
  · rw [State.dispatch_busy _ _ _ hi]
    exact h.congr rfl rfl rfl

/-- A recognised row ends its wait: no exchange waits behind it. -/
theorem State.ctl_ne_xch_of_recognise {u t : State} {c : List Byte} {i : Instr} (hi : u.recognise c = some i)
    (ht : exec i u = .next t) : t.ctl ≠ .xch := by
  obtain ⟨-, -, rfl⟩ | ⟨-, -, rfl⟩ | ⟨-, rfl | rfl | ⟨r, out, -, -, rfl⟩⟩ := u.exec_recognised t c i hi ht
  · simp
  · simp
  · simp
  · simp
  · simp [State.completeXch_eq]

/-- A miss leaves the state as it is, or ends the wait. -/
theorem State.DecInv.pollMiss {u : State} (h : u.DecInv) (hc : u.ctl ≠ .idle) : u.pollMiss.DecInv := by
  obtain ⟨-, code, ht⟩ | ⟨-, ht⟩ | ⟨ht, -⟩ := u.pollMiss_cases hc <;> rw [ht]
  · exact State.decInv_of_ctl_ne (by simp)
  · exact State.decInv_of_ctl_ne (by simp)
  · exact h

theorem State.DecInv.poll {s t : State} (h : s.DecInv) (hc : s.ctl ≠ .idle) {c : List Byte}
    (hp : (s.polled c).PollLeadsTo c t) : t.DecInv := by
  obtain ⟨i, hi, ht⟩ | ⟨hr, rfl⟩ := hp
  · exact State.decInv_of_ctl_ne (State.ctl_ne_xch_of_recognise hi ht)
  · refine State.DecInv.pollMiss ?_ (by simpa using hc)
    by_cases hx : s.ctl = .xch
    · exact h.polled_of_recognise_none hx hr
    · exact State.decInv_of_ctl_ne (by simpa using hx)

/-- Settles O55: a command begins an exchange with an empty buffer, a poll that misses has made every move of the decoder
(`refDecode_awaits`), and every other step leaves the decoder alone or leaves no exchange waiting. -/
theorem stepKeepsDecoderInvariant : Obligations.StepKeepsDecoderInvariant := by
  intro s t hs h
  obtain ⟨-, -, rfl⟩ | ⟨off, rest, -, rfl⟩ | ⟨rest, -, rfl⟩ | ⟨rest, -, rfl⟩ | ⟨off, v, rest, -, -, rfl⟩ |
    ⟨v, rest, -, rfl⟩ | ⟨c, rest, -, -, rfl⟩ | ⟨c, rest, -, hi, hp⟩ := step_cases s t h
  · exact hs
  · exact hs.congr rfl rfl rfl
  · exact hs.congr rfl rfl rfl
  · exact State.decInv_of_ctl_ne nofun
  · obtain ⟨hctl, -, hrxbuf, -, -, -, hdec, -⟩ := (s.setAgenda rest).hostWrite_frame off v
    exact hs.congr hctl hdec hrxbuf
  · exact State.DecInv.dispatch (s := (s.setAgenda rest).tickUp) (hs.congr rfl rfl rfl) v
  · exact hs.congr rfl rfl rfl
  · exact State.DecInv.poll (s := s.setAgenda rest) (hs.congr rfl rfl rfl) hi hp

/-! ### Runs of polls -/

/-- A waiting engine makes the first poll of a run, and the run goes on from there. -/
theorem State.after_poll {s t : State} {c : List Byte} {cs : List (List Byte)} {moves : List Move} (hc : s.ctl ≠ .idle)
    (hp : ((s.setAgenda (pollMoves cs ++ moves)).polled c).PollLeadsTo c t) :
    s.after (pollMoves (c :: cs)) moves = t.after (pollMoves cs) moves := by
  have hstep : step (s.setAgenda (.poll c :: (pollMoves cs ++ moves))) = .next t := step_of_pollLeadsTo hc rfl hp
  exact s.after_cons t _ _ moves hstep ((hp.agenda_eq (by simpa using hc)).trans (State.polled_agenda _ c))

/-- An idle engine passes over polls (R239). -/
theorem State.after_pollMoves_idle (chunks : List (List Byte)) (moves : List Move) : ∀ {s : State}, s.ctl = .idle →
    s.after (pollMoves chunks) moves = .next (s.setAgenda moves) := by
  induction chunks with
  | nil => intros; rfl
  | cons c cs ih =>
    intro s hc
    have hstep : step (s.setAgenda (.poll c :: (pollMoves cs ++ moves))) = .next (s.setAgenda (pollMoves cs ++ moves)) :=
      step_poll_idle hc rfl
    exact (s.after_cons _ _ _ moves hstep rfl).trans (ih hc)

/-! ### The first byte decides -/

/-- Settles O37: with nothing held before it, a leading NACK is `DECODE`'s outcome, and the poll posts it. -/
theorem nackEndsTheExchange : Obligations.NackEndsTheExchange := by
  intro s tail moves hx hd hb ha
  have hs : (s.setAgenda moves).DecInv := (State.decInv_iff _).2 fun _ => by
    rw [State.setAgenda_dec, State.setAgenda_rxbuf, hd, hb]
    exact .inl rfl
  have hout : (refDecode (s.setAgenda moves).dec (appendRx (s.setAgenda moves).rxbuf (0x15#8 :: tail))).2.2 =
      some .nack := by
    rw [State.setAgenda_dec, State.setAgenda_rxbuf, hd, hb]
    rfl
  obtain ⟨k, hp⟩ := hs.poll_of_some hx hout
  exact ⟨_, step_of_pollLeadsTo (by simp [hx]) ha hp, rfl, rfl, rfl, rfl, by simp, by simp⟩

/-- Behind a leading noise byte `DECODE` waits for an ACK that can no longer come first (R186). -/
theorem refDecode_of_noise {buf : List Byte} (h6 : byteAt buf 0 ≠ 0x06#8) (h15 : byteAt buf 0 ≠ 0x15#8) :
    refDecode .awaitAck buf = (.awaitAck, buf, none) := by
  simp only [refDecode, refAck, h6, h15, if_false, ite_self]

/-- The exchange waits for the ACK behind a leading noise byte. -/
structure State.HoldsNoise (s : State) : Prop where
  ctl : s.ctl = .xch
  dec : s.dec = .awaitAck
  rxbuf : s.rxbuf ≠ []
  notAck : byteAt s.rxbuf 0 ≠ 0x06#8
  notNack : byteAt s.rxbuf 0 ≠ 0x15#8

theorem State.HoldsNoise.decInv {s : State} (h : s.HoldsNoise) : s.DecInv :=
  s.decInv_iff.2 fun _ => by rw [h.dec]; exact .inr ⟨h.notAck, h.notNack⟩

theorem State.HoldsNoise.setAgenda {s : State} (h : s.HoldsNoise) (l : List Move) : (s.setAgenda l).HoldsNoise :=
  ⟨h.ctl, h.dec, h.rxbuf, h.notAck, h.notNack⟩

/-- No poll moves the decoder past a leading noise byte (R186). -/
theorem State.HoldsNoise.poll {s : State} (h : s.HoldsNoise) (c : List Byte) :
    (s.polled c).HoldsNoise ∧ (s.polled c).PollLeadsTo c (s.polled c).pollMiss := by
  have hpos : 0 < s.rxbuf.length := List.length_pos_iff.2 h.rxbuf
  have hfront : byteAt (appendRx s.rxbuf c) 0 = byteAt s.rxbuf 0 := byteAt_appendRx s.rxbuf c hpos (by decide)
  have hwait : refDecode s.dec (appendRx s.rxbuf c) = (.awaitAck, appendRx s.rxbuf c, none) := by
    rw [h.dec]
    exact refDecode_of_noise (by rw [hfront]; exact h.notAck) (by rw [hfront]; exact h.notNack)
  obtain ⟨href, hp⟩ := h.decInv.poll_of_none h.ctl (c := c) (by rw [hwait])
  rw [hwait, Prod.mk.injEq, Prod.mk.injEq] at href
  obtain ⟨hdec, hbuf, -⟩ := href
  refine ⟨⟨by simpa using h.ctl, hdec.symm, ?_, ?_, ?_⟩, hp⟩ <;> rw [← hbuf]
  · exact List.length_pos_iff.1 (lt_length_appendRx s.rxbuf c hpos (by decide))
  · rw [hfront]; exact h.notAck
  · rw [hfront]; exact h.notNack

/-- Settles O41, by induction on the remaining polls: each of them misses (`State.HoldsNoise.poll`), and the last is the
300th. -/
theorem noiseNeverClassifies : Obligations.NoiseNeverClassifies := by
  intro s moves chunks hx hd hb h6 h15 hcount hne
  have hnoise : s.HoldsNoise := ⟨hx, hd, hb, h6, h15⟩
  clear hx hd hb h6 h15
  induction chunks generalizing s with
  | nil => exact absurd rfl hne
  | cons c cs ih =>
    obtain ⟨hnext, hp⟩ := (hnoise.setAgenda (pollMoves cs ++ moves)).poll c
    rw [State.after_poll (by simp [hnoise.ctl]) hp, State.pollMiss_xch hnext.ctl, State.polled_attempt,
      State.setAgenda_attempt]
    rw [List.length_cons] at hcount
    split
    next hlast =>
      exact ⟨_, State.after_pollMoves_idle cs moves rfl, rfl, rfl, rfl, by simp⟩
    next hlast =>
      have hcs : cs ≠ [] := by
        rintro rfl
        rw [List.length_nil] at hcount
        exact hlast (by bv_omega)
      obtain ⟨t, ht, hi, hr, hl, hsession⟩ := ih _ (by simp; bv_omega) hcs hnext
      exact ⟨t, ht, hi, hr, hl, by simpa using hsession⟩

end Sys2Proof.Machine
end

section
/-! The response rows: the two that carry no payload (O28), the three outcome rows (O29), how a complete response is
classified (O30), and a valid response in any split across the polls of an exchange (O42). -/

namespace Sys2Proof.Machine

/-! ### The rows in their state -/

/-- Settles O28: each row completes with its code and no payload. -/
theorem rejectionRowsRun : Obligations.RejectionRowsRun :=
  ⟨fun s hx hd => congrArg Host.Outcome.next (if_pos ((s.inXch_eq _).2 ⟨hx, hd⟩)),
    fun s _ _ hx hd => congrArg Host.Outcome.next (if_pos ((s.inXch_eq _).2 ⟨hx, hd⟩))⟩

/-- Settles O29: each row posts the outcome of its name with the payload `responsePayload_eq` gives. -/
theorem outcomeRowsRun : Obligations.OutcomeRowsRun := by
  intro s r hx hd
  have hin : s.inXch .done = true := (s.inXch_eq _).2 ⟨hx, hd⟩
  rw [← responsePayload_eq r]
  refine ⟨congrArg Host.Outcome.next (if_pos hin), congrArg Host.Outcome.next (if_pos hin),
    congrArg Host.Outcome.next ((if_pos hin).trans ?_)⟩
  exact s.completeXch_eq (.success (responsePayload r))

/-! ### Classification -/

theorem responseChecks_iff (r : Response) (h : r.body.length ≤ 255) :
    responseChecks r = true ↔ sum8 (countByte r.body.length :: r.body) = r.check := by
  rw [responseChecks, checksum_response r h, beq_iff_eq]

/-- Index 3 is the first byte of the body, or the check byte of an empty one (R193). -/
theorem responseIsError_iff (r : Response) :
    responseIsError r = true ↔ (r.body ++ [r.check]).headD 0 &&& 0x0F#8 = 0x03#8 := by
  have h3 : byteAt (responseBytes r) 3 = (r.body ++ [r.check]).headD 0 := by
    obtain ⟨_ | ⟨b, body⟩, check⟩ := r <;> rfl
  rw [responseIsError, config_errIndex, config_errNibble, h3, lowNibble, beq_iff_eq]

/-- The row a complete response is classified as posts its outcome (R192 to R194). -/
theorem exec_classifyResponse (s : State) (r : Response) (h : s.inXch .done = true) :
    exec (classifyResponse r) s = .next (s.completeXch (responseOutcome r)) := by
  unfold classifyResponse responseOutcome
  split <;> [skip; split] <;> exact congrArg Host.Outcome.next (if_pos h)

/-- A complete response in its state is the outcome row it is classified as, over the truncated buffer (R191 to R194). -/
theorem exec_rxResponse_eq_classify (s : State) (r : Response) (h : s.inXch .awaitBody = true) :
    exec (.rxResponse r) s = exec (classifyResponse r) (s.truncate r) := by
  have hdone : (s.truncate r).inXch .done = true := (State.inXch_eq _ _).2 ⟨((s.inXch_eq _).1 h).1, rfl⟩
  rw [exec_classifyResponse _ r hdone, ← s.onResponse_eq r]
  exact congrArg Host.Outcome.next (if_pos h)

/-- What truncating leaves in `CSUM` (R136, R192). -/
theorem State.truncate_eq (s : State) (r : Response) (h : r.body.length ≤ 255) : s.truncate r =
    { s with
      rxbuf := [0x06#8, 0x41#8, countByte r.body.length] ++ r.body ++ [r.check]
      dec := .done
      csum := sum8 (countByte r.body.length :: r.body) } := by
  rw [State.truncate, csumAfter_of_range _ (checksumRange_response r h), accumulate_eq]
  rfl

/-- Settles O30: the row runs what it is classified as, and the two tests are those of the statement. -/
theorem responseRowClassifies : Obligations.ResponseRowClassifies := by
  intro s r hx hd hr
  rw [exec_rxResponse_eq_classify s r ((s.inXch_eq _).2 ⟨hx, hd⟩), ← s.truncate_eq r hr]
  congr 1
  simp only [classifyResponse, ← Bool.not_eq_true, responseChecks_iff r hr, responseIsError_iff, ne_eq]

/-! ### A response arriving in pieces -/

/-- A buffer that ends before its telegram does is waited on (R190). -/
theorem refBody_of_lt {buf : List Byte} (h : buf.length < (byteAt buf 2).toNat + 4) :
    refBody buf = (.awaitBody, buf, none) := if_pos h

/-- A whole telegram in AWAIT_BODY is classified (R191 to R194). -/
theorem refBody_responseBytes (r : Response) (h : r.body.length ≤ 255) :
    refBody (responseBytes r) = (.done, responseBytes r, some (responseOutcome r)) := by
  have hlen : (byteAt (responseBytes r) 2).toNat = r.body.length := by
    change (countByte r.body.length).toNat = _
    rw [countByte_toNat]; omega
  have htake : (responseBytes r).take (r.body.length + 4) = responseBytes r :=
    List.take_of_length_le (responseBytes_length r).le
  have hcheck : byteAt (responseBytes r) (r.body.length + 3) = r.check := by
    rw [responseBytes, byteAt_append_right _ _ _ (by simp)]
    simp
  have hpay : slice (responseBytes r) 8 (r.body.length + 3) = responsePayload r := rfl
  have herr : lowNibble (byteAt (responseBytes r) config.errIndex) = config.errNibble ↔ responseIsError r = true :=
    beq_iff_eq.symm
  have hsum : checksum (responseBytes r) ≠ r.check ↔ responseChecks r = false := by
    rw [responseChecks, beq_eq_false_iff_ne]
  unfold refBody
  simp only [hlen, htake, hcheck, hpay, herr, hsum, responseBytes_length, lt_irrefl, if_false]
  unfold responseOutcome
  split <;> [skip; split] <;> rfl

theorem length_of_append_eq_responseBytes {r : Response} {buf rest : List Byte}
    (hsplit : buf ++ rest = responseBytes r) : buf.length + rest.length = r.body.length + 4 := by
  rw [← List.length_append, hsplit, responseBytes_length]

section
variable {r : Response} {buf rest : List Byte} (hr : r.body.length ≤ 255) (hsplit : buf ++ rest = responseBytes r)
include hr hsplit

theorem refBody_of_split : (refBody buf).2.2 = if rest = [] then some (responseOutcome r) else none := by
  have hlen := length_of_append_eq_responseBytes hsplit
  by_cases he : rest = []
  · rw [he, List.append_nil] at hsplit
    rw [if_pos he, hsplit, refBody_responseBytes r hr]
  · have hpos : 0 < rest.length := List.length_pos_iff.2 he
    rw [if_neg he, refBody_of_lt]
    by_cases h2 : 2 < buf.length
    · have hb : byteAt buf 2 = countByte r.body.length := by
        rw [← byteAt_append_left buf rest 2 h2, hsplit]; rfl
      rw [hb, countByte_toNat]
      omega
    · omega

theorem refStx_of_split : (refStx buf).2.2 = if rest = [] then some (responseOutcome r) else none := by
  have hlen := length_of_append_eq_responseBytes hsplit
  unfold refStx
  by_cases h2 : buf.length ≤ 2
  · have he : rest ≠ [] := List.length_pos_iff.1 (by omega)
    rw [if_pos h2, if_neg he]
  · have h1 : byteAt buf 1 = 0x41#8 := by
      rw [← byteAt_append_left buf rest 1 (by omega), hsplit]; rfl
    rw [if_neg h2, if_pos h1, refBody_of_split hr hsplit]

theorem refAck_of_split : (refAck buf).2.2 = if rest = [] then some (responseOutcome r) else none := by
  have hlen := length_of_append_eq_responseBytes hsplit
  unfold refAck
  by_cases hb : buf = []
  · have he : rest ≠ [] := List.length_pos_iff.1 (by rw [hb, List.length_nil] at hlen; omega)
    rw [if_pos hb, if_neg he]
  · have h0 : byteAt buf 0 = 0x06#8 := by
      rw [← byteAt_append_left buf rest 0 (List.length_pos_iff.2 hb), hsplit]; rfl
    rw [if_neg hb, if_pos h0, refStx_of_split hr hsplit]

/-- From every waiting state, `DECODE` waits on a telegram until its last byte is there, and then classifies it. -/
theorem refDecode_of_split {d : Dec} (hd : d ≠ .done) :
    (refDecode d buf).2.2 = if rest = [] then some (responseOutcome r) else none := by
  cases d with
  | awaitAck => exact refAck_of_split hr hsplit
  | awaitStx => exact refStx_of_split hr hsplit
  | awaitBody => exact refBody_of_split hr hsplit
  | done => exact absurd rfl hd

/-- No byte of a telegram is lost to the capacity of `RXBUF` (R103, R181). -/
theorem appendRx_of_split {chunk : List Byte} {held : List Byte} (hb : held ++ chunk = buf) :
    appendRx held chunk = buf := by
  have hlen := length_of_append_eq_responseBytes hsplit
  rw [appendRx, hb]
  exact List.take_of_length_le (by rw [config_rxbufCap]; omega)

end

/-- A telegram of which the exchange holds the front, and the remaining polls bring the rest, completes the exchange. -/
theorem State.DecInv.after_response {r : Response} (hr : r.body.length ≤ 255) (moves : List Move)
    (chunks : List (List Byte)) : ∀ {s : State}, s.DecInv → s.ctl = .xch →
    s.rxbuf ++ chunks.flatten = responseBytes r → chunks.flatten ≠ [] → s.attempt.toNat + chunks.length ≤ 300 →
    ∃ u : State, u.session = s.session ∧ u.mem = s.mem ∧ s.after (pollMoves chunks) moves =
      .next (u.raiseOutcome (refPost s.op s.latchLen (responseOutcome r)).1
        (refPost s.op s.latchLen (responseOutcome r)).2) := by
  induction chunks with
  | nil => exact fun _ _ _ hne => absurd rfl hne
  | cons c cs ih =>
    intro s h hx hsplit _ hcount
    rw [List.flatten_cons, ← List.append_assoc] at hsplit
    rw [List.length_cons] at hcount
    have h0 : (s.setAgenda (pollMoves cs ++ moves)).DecInv := h.congr rfl rfl rfl
    have hbuf : appendRx s.rxbuf c = s.rxbuf ++ c := appendRx_of_split hr hsplit rfl
    have hout := refDecode_of_split hr hsplit (h.notDone hx)
    rw [← hbuf] at hout
    by_cases hrest : cs.flatten = []
    · obtain ⟨k, hp⟩ := h0.poll_of_some hx (hout.trans (if_pos hrest))
      refine ⟨{ (s.setAgenda (pollMoves cs ++ moves)).polled c with agenda := moves, csum := k }, by simp, by simp, ?_⟩
      rw [State.after_poll (by simp [hx]) hp, State.after_pollMoves_idle cs moves rfl]
      rfl
    · have hcs : cs ≠ [] := by rintro rfl; exact hrest rfl
      have hlen : 0 < cs.length := List.length_pos_iff.2 hcs
      obtain ⟨-, hp⟩ := h0.poll_of_none hx (hout.trans (if_neg hrest))
      have hmiss : ((s.setAgenda (pollMoves cs ++ moves)).polled c).pollMiss =
          (s.setAgenda (pollMoves cs ++ moves)).polled c := by
        rw [State.pollMiss_xch (by simpa using hx), State.polled_attempt, State.setAgenda_attempt,
          if_neg (by bv_omega)]
      rw [hmiss] at hp
      obtain ⟨u, hsession, hmem, hu⟩ := ih (h0.poll (by simp [hx]) hp) (by simpa using hx)
        (by simpa [hx, hbuf] using hsplit) hrest (by simp; bv_omega)
      rw [State.after_poll (by simp [hx]) hp]
      exact ⟨u, by simpa using hsession, by simpa using hmem, by simpa using hu⟩

/-- Settles O42: the run ends in the response's outcome (`State.DecInv.after_response`), which is a success. -/
theorem responseInAnySplitSucceeds : Obligations.ResponseInAnySplitSucceeds := by
  intro s r moves chunks hx hd hb ha hr hsum herr hsplit hcount
  have hs : s.DecInv := s.decInv_iff.2 fun _ => by rw [hd, hb]; exact .inl rfl
  have hne : chunks.flatten ≠ [] := by rw [hsplit]; exact nofun
  obtain ⟨u, hsession, hmem, hu⟩ := hs.after_response hr moves chunks hx (by rw [hb]; exact hsplit) hne
    (by simpa [ha] using hcount)
  have hout : responseOutcome r = .success (r.body.drop 5) := by
    rw [responseOutcome, if_neg (by simp [(responseChecks_iff r hr).2 hsum]), if_neg (mt (responseIsError_iff r).1 herr),
      responsePayload_eq]
  rw [hout] at hu
  exact ⟨_, hu, rfl, rfl, rfl, hsession, rfl, congrArg (Memory.setList · rxBase _) hmem⟩

end Sys2Proof.Machine
end

section
/-! The commands. At rest every command byte is accepted, and each command's effect is written out: HANDSHAKE (O18),
CLOSE (O23) and the reserved opcodes (O22), READ (O19), WRITE (O20), RPC (O21). While a command waits, another is dropped
(O17). The two rows of the handshake run through the same operations (O27). -/

namespace Sys2Proof.Machine

/-! ### What the commands share -/

/-- A command byte met at rest runs its command behind the dispatch preamble (R220, R221). -/
theorem exec_command_of_idle {s : State} (v : Byte) (hc : s.ctl = .idle) :
    exec (decodeCommand v) s = .next (acceptOf v (s.preamble v)) := by
  rw [exec_command, State.dispatch_idle _ _ _ hc]

theorem State.rxClear_txWrite (s : State) (l : List Byte) :
    s.rxClear.txWrite l = { s with history := s.history ++ [.clr, .tx l] } := by
  simp only [State.txWrite, State.rxClear, List.append_assoc, List.cons_append, List.nil_append]

/-- Sending the request of an accepted command, and starting its exchange (R228, R229, R230). -/
theorem State.startExchange_request (s : State) (l : List Byte) (o : Op) :
    (s.rxClear.sendRequest l).startExchange o =
      { s with
        history := s.history ++ [.clr, .tx l]
        csum := csumAfter s.csum l.dropLast
        op := o
        rxbuf := []
        dec := .awaitAck
        attempt := 0
        ctl := .xch } := by
  have hsend : s.rxClear.sendRequest l = (s.runCsum l.dropLast).rxClear.txWrite l := rfl
  rw [hsend, State.rxClear_txWrite]
  rfl

/-! ### Commands that need no ready session -/

/-- Settles O17: the dispatch of every byte drops it. -/
theorem commandWhileBusyIsDropped : Obligations.CommandWhileBusyIsDropped := by
  intro s v hc
  rw [exec_command, State.dispatch_busy _ _ _ hc]
  rfl

/-- Settles O18: clear and EOT are two records of one step. -/
theorem handshakeAccepted : Obligations.HandshakeAccepted := by
  intro s hc
  calc exec .handshake s
      _ = .next ((((s.preamble 0x10#8).rxClear.txWrite encEot).setSession .handshaking).startStage .hsEnq) :=
        exec_command_of_idle 0x10#8 hc
      _ = _ := by rw [State.rxClear_txWrite]; rfl

/-- Settles O23: EOT, the session and the completion, in that order. -/
theorem closeCompletes : Obligations.CloseCompletes := fun _ hc => exec_command_of_idle 0x11#8 hc

/-- A byte that is no command opcode decodes to its reserved command (R107): that command is well-formed, so it is what
some byte decodes to, and its encoding says which. -/
theorem decodeCommand_of_reserved {v : Byte} (h : isCommandOpcode v = false) : decodeCommand v = .reserved v := by
  obtain ⟨w, hw⟩ := eq_decodeCommand_of_port (i := .reserved v) (by simp [Instr.wf, h]) rfl
  have hv : [v] = [w] := (congrArg encode hw).trans (encode_decodeCommand w)
  obtain rfl : v = w := List.singleton_inj.1 hv
  exact hw.symm

/-- Settles O22: the decoding is `decodeCommand_of_reserved`; at rest the dispatch completes at once. -/
theorem reservedIsIllegal : Obligations.ReservedIsIllegal :=
  ⟨fun _ => decodeCommand_of_reserved, fun s v hc => congrArg Host.Outcome.next (s.dispatch_idle v _ hc)⟩

/-! ### Commands of a ready session -/

theorem State.acceptRead_of_ready {s : State} (hs : s.session = .ready) :
    s.acceptRead = ((sendRead s.addr s.len s.rxClear).startExchange .read).latch s.len := if_pos hs

theorem State.acceptRead_of_not_ready {s : State} (hs : s.session ≠ .ready) :
    s.acceptRead = s.raiseOutcome .notReady [] := if_neg hs

theorem State.acceptWrite_of_not_ready {s : State} (hs : s.session ≠ .ready) :
    s.acceptWrite = s.raiseOutcome .notReady [] := if_neg hs

/-- Data that do not fit a PayloadLen byte are refused after the clear (R229, R232). -/
theorem State.acceptWrite_of_long {s : State} (hs : s.session = .ready) (hl : 250 < s.txlen.toNat) :
    s.acceptWrite = s.rxClear.raiseOutcome .invalidLength [] := by
  rw [State.acceptWrite, if_pos hs, if_neg (by rw [writeLengthOk_iff]; omega)]

theorem State.acceptRpc_of_not_ready {s : State} (hs : s.session ≠ .ready) :
    s.acceptRpc = s.raiseOutcome .notReady [] := if_neg hs

/-- Arguments that do not fit a PayloadLen byte are refused after the clear (R230, R232). -/
theorem State.acceptRpc_of_long {s : State} (hs : s.session = .ready) (hl : 249 < s.txlen.toNat) :
    s.acceptRpc = s.rxClear.raiseOutcome .invalidLength [] := by
  rw [State.acceptRpc, if_pos hs, if_neg (by rw [rpcLengthOk_iff]; omega)]

/-- A call whose arguments fit clears, sends its request, and waits in an exchange (R230). -/
theorem State.acceptRpc_of_ready {s : State} (hs : s.session = .ready) (hl : s.txlen.toNat ≤ 249) :
    s.acceptRpc = (sendRpc s.addr s.procId s.txBytes s.rxClear).startExchange .rpc := by
  rw [State.acceptRpc, if_pos hs, if_pos ((rpcLengthOk_iff _).2 hl)]

/-- Settles O19: the two paths of `State.acceptRead`. -/
theorem readAccepted : Obligations.ReadAccepted := by
  intro s hc
  refine ⟨fun hs => ?_, fun hs => ⟨csumAfter s.csum (encRead s.addr s.len).dropLast, ?_⟩⟩
  · exact (exec_command_of_idle 0x01#8 hc).trans (congrArg _ (State.acceptRead_of_not_ready hs))
  · have haccept := State.acceptRead_of_ready (s := s.preamble 0x01#8) hs
    rw [sendRead, State.startExchange_request] at haccept
    exact (exec_command_of_idle 0x01#8 hc).trans (congrArg _ haccept)

/-- Settles O20: the three paths of `State.acceptWrite`. -/
theorem writeAccepted : Obligations.WriteAccepted := by
  intro s hc
  refine ⟨fun hs => ?_, fun hs hl => ?_, fun hs hl => ⟨csumAfter s.csum (encWrite s.addr s.txBytes).dropLast, ?_⟩⟩
  · exact (exec_command_of_idle 0x02#8 hc).trans (congrArg _ (State.acceptWrite_of_not_ready hs))
  · exact (exec_command_of_idle 0x02#8 hc).trans (congrArg _ (State.acceptWrite_of_long hs hl))
  · have haccept := State.acceptWrite_of_ready (s := s.preamble 0x02#8) hs hl
    exact (exec_command_of_idle 0x02#8 hc).trans (congrArg _ (haccept.trans (State.startExchange_request _ _ _)))

/-- Settles O21: the three paths of `State.acceptRpc`. -/
theorem rpcAccepted : Obligations.RpcAccepted := by
  intro s hc
  refine ⟨fun hs => ?_, fun hs hl => ?_,
    fun hs hl => ⟨csumAfter s.csum (encRpc s.addr s.procId s.txBytes).dropLast, ?_⟩⟩
  · exact (exec_command_of_idle 0x07#8 hc).trans (congrArg _ (State.acceptRpc_of_not_ready hs))
  · exact (exec_command_of_idle 0x07#8 hc).trans (congrArg _ (State.acceptRpc_of_long hs hl))
  · have haccept := State.acceptRpc_of_ready (s := s.preamble 0x07#8) hs hl
    exact (exec_command_of_idle 0x07#8 hc).trans (congrArg _ (haccept.trans (State.startExchange_request _ _ _)))

/-! ### The rows of the handshake -/

/-- Settles O27: each row, in its stage, is one operation. -/
theorem handshakeRowsRun : Obligations.HandshakeRowsRun := by
  refine ⟨fun s hc => ?_, fun s hc => congrArg Host.Outcome.next (if_pos hc)⟩
  exact congrArg Host.Outcome.next
    ((if_pos hc).trans (congrArg (State.startStage · .hsStart) (s.rxClear_txWrite encStart)))

end Sys2Proof.Machine
end

section
/-! One poll, as the step that makes it: the stages of the handshake (O34, O35), the exchange (O36), and the wire
instruction a poll runs (O14); and when a poll is made at all (O16). -/

namespace Sys2Proof.Machine

/-! ### When the engine polls -/

/-- With nothing pending, a step is a poll on the free draw; an idle engine passes over it (R239, R288). -/
theorem step_of_no_agenda {s : State} (ha : s.agenda = []) :
    step s = step (s.setAgenda [.poll (Config.rxDraw s.tick)]) := by
  have hs : s.setAgenda [] = s := by rw [← ha]; rfl
  simp only [step, State.fetch, ha, State.setAgenda_agenda, State.setAgenda_setAgenda, hs]

/-- Settles O16: `step_poll_idle`, with the poll scheduled or drawn. -/
theorem pollsOnlyWhileWaiting : Obligations.PollsOnlyWhileWaiting := by
  refine ⟨fun s c moves => step_poll_idle, fun s hc ha => ?_, fun s _ => step_of_no_agenda⟩
  have hpoll : step (s.setAgenda [.poll (Config.rxDraw s.tick)]) = .next (s.setAgenda []) := step_poll_idle hc rfl
  rw [step_of_no_agenda ha, hpoll, ← ha]
  rfl

/-! ### The row a poll runs -/

/-- The read of a poll, as one update (R72). -/
theorem State.setAgenda_pollRead (s : State) (moves : List Move) (c : List Byte) :
    (s.setAgenda moves).pollRead c =
      { s with agenda := moves, history := s.history ++ [.rx c], tick := s.tick + 1, attempt := s.attempt + 1 } := rfl

theorem State.recognise_of_decode {u : State} {c rest : List Byte} {p : Port} {i : Instr} (hp : u.wirePort = some p)
    (hd : decode p (u.wireBytes c) = .ok (i, rest)) : u.recognise c = some i := by
  simp only [State.recognise, hp, hd]

/-- Settles O14: the state of the statement is the one the poll leaves before its bytes are classified. -/
theorem stepRunsTheWireInstruction : Obligations.StepRunsTheWireInstruction := by
  intro s t c rest moves p i hc ha ht hp hd
  have hpolled : t = (s.setAgenda moves).polled c := by
    rw [State.polled, State.setAgenda_pollRead]
    exact ht
  have hbytes : t.wireBytes c = if s.ctl = .xch then t.rxbuf else c := by
    rw [State.wireBytes, hpolled, State.polled_ctl]
    rfl
  rw [← hbytes] at hd
  have hi := State.recognise_of_decode hp hd
  rw [step_poll s c moves hc ha, ← hpolled, hi]

/-! ### The stages of the handshake -/

/-- `c` is a handshake stage, and `b` the byte it waits for (R225, R226). -/
def Ctl.WaitsFor (c : Ctl) (b : Byte) : Prop := (c = .hsEnq ∧ b = 0x05#8) ∨ (c = .hsStart ∧ b = 0x06#8)

theorem Ctl.WaitsFor.isStage {c : Ctl} {b : Byte} (h : c.WaitsFor b) : c.isStage = true := by
  obtain ⟨rfl, -⟩ | ⟨rfl, -⟩ := h <;> rfl

theorem Ctl.WaitsFor.ne_xch {c : Ctl} {b : Byte} (h : c.WaitsFor b) : c ≠ .xch := by
  obtain ⟨rfl, -⟩ | ⟨rfl, -⟩ := h <;> decide

theorem Ctl.WaitsFor.ne_idle {c : Ctl} {b : Byte} (h : c.WaitsFor b) : c ≠ .idle := by
  obtain ⟨rfl, -⟩ | ⟨rfl, -⟩ := h <;> decide

theorem Ctl.exists_waitsFor {c : Ctl} (h : c.isStage = true) : ∃ b, c.WaitsFor b := by
  cases c with
  | hsEnq => exact ⟨_, .inl ⟨rfl, rfl⟩⟩
  | hsStart => exact ⟨_, .inr ⟨rfl, rfl⟩⟩
  | idle | xch => cases h

/-- A stage recognises nothing but its byte (R225, R226). -/
theorem State.recognise_eq_none_iff {u : State} {b : Byte} (h : u.ctl.WaitsFor b) (c : List Byte) :
    u.recognise c = none ↔ b ∉ c := by
  obtain ⟨hc, rfl⟩ | ⟨hc, rfl⟩ := h
  · rw [u.recognise_enq c hc]; simp
  · rw [u.recognise_start c hc]; simp

/-- The code of a stage that fails (R225, R226). -/
def Ctl.failCode (c : Ctl) : Code := if c = .hsEnq then .hsFailEnq else .hsFailStart

theorem Ctl.failCode_ne_none (c : Ctl) : c.failCode ≠ .none := by
  unfold Ctl.failCode
  split <;> exact nofun

/-- The miss of a stage's poll (R225, R226). -/
theorem State.pollMiss_stage {u : State} (h : u.ctl.isStage = true) :
    u.pollMiss = if u.attempt = 30 then (u.setSession .faulted).raiseOutcome u.ctl.failCode [] else u := by
  obtain ⟨b, ⟨hc, -⟩ | ⟨hc, -⟩⟩ := Ctl.exists_waitsFor h <;> rw [State.pollMiss, hc] <;> rfl

/-- A stage's poll without its byte: on the 30th attempt the session fails, and before it the stage waits on. -/
theorem step_stage_miss {s : State} {b : Byte} {c : List Byte} {moves : List Move} (h : s.ctl.WaitsFor b)
    (ha : s.agenda = .poll c :: moves) (hm : b ∉ c) : step s = .next (if s.attempt + 1 = 30 then
      (((s.setAgenda moves).pollRead c).setSession .faulted).raiseOutcome s.ctl.failCode []
      else (s.setAgenda moves).pollRead c) := by
  have hpolled := (s.setAgenda moves).polled_stage c h.ne_xch
  have hnone := (State.recognise_eq_none_iff (u := (s.setAgenda moves).polled c) (by simpa using h) c).2 hm
  rw [step_of_pollLeadsTo h.ne_idle ha (.inr ⟨hnone, rfl⟩), State.pollMiss_stage (by simpa using h.isStage), hpolled]
  rfl

/-- Settles O34: the byte runs RX_ENQ (O27), and without it the poll is a miss (`step_stage_miss`). -/
theorem enqStagePoll : Obligations.EnqStagePoll := by
  intro s c moves hc ha
  by_cases hm : 0x05#8 ∈ c
  · have hctl : ((s.setAgenda moves).pollRead c).ctl = .hsEnq := hc
    rw [if_pos hm, step_poll s c moves (by simp [hc]) ha, State.polled_stage _ c (by simp [hc]),
      State.recognise_enq _ c hctl, if_pos hm]
    exact (handshakeRowsRun.1 _ hctl).trans (by simp)
  · have hcode : s.ctl.failCode = .hsFailEnq := if_pos hc
    rw [if_neg hm, step_stage_miss (.inl ⟨hc, rfl⟩) ha hm, hcode, State.setAgenda_pollRead]
    rfl

/-- Settles O35: the byte runs RX_HS_ACK (O27), and without it the poll is a miss (`step_stage_miss`). -/
theorem startStagePoll : Obligations.StartStagePoll := by
  intro s c moves hc ha
  by_cases hm : 0x06#8 ∈ c
  · have hctl : ((s.setAgenda moves).pollRead c).ctl = .hsStart := hc
    rw [if_pos hm, step_poll s c moves (by simp [hc]) ha, State.polled_stage _ c (by simp [hc]),
      State.recognise_start _ c hctl, if_pos hm, State.setAgenda_pollRead]
    exact handshakeRowsRun.2 _ hc
  · have hcode : s.ctl.failCode = .hsFailStart := if_neg (by simp [hc])
    rw [if_neg hm, step_stage_miss (.inr ⟨hc, rfl⟩) ha hm, hcode, State.setAgenda_pollRead]
    rfl

/-! ### The exchange -/

/-- Settles O36: with an outcome of `DECODE` the poll posts it (`State.DecInv.poll_of_some`), and without one it is a miss
that leaves what `DECODE` left (`State.DecInv.poll_of_none`). -/
theorem exchangePollFollowsDecode : Obligations.ExchangePollFollowsDecode := by
  intro s c moves h hx ha
  have hs : (s.setAgenda moves).DecInv := h.congr rfl rfl rfl
  have hpolled := (s.setAgenda moves).polled_xch c hx
  have happ : (s.rxbuf ++ c).take 259 = appendRx s.rxbuf c := rfl
  rw [happ]
  cases ho : (refDecode s.dec (appendRx s.rxbuf c)).2.2 with
  | some out =>
    obtain ⟨k, hp⟩ := hs.poll_of_some hx ho
    refine ⟨k, (step_of_pollLeadsTo (by simp [hx]) ha hp).trans ?_⟩
    rw [hpolled, State.setAgenda_pollRead]
    rfl
  | none =>
    obtain ⟨href, hp⟩ := hs.poll_of_none hx ho
    refine ⟨s.csum, (step_of_pollLeadsTo (by simp [hx]) ha hp).trans ?_⟩
    rw [State.setAgenda_dec, State.setAgenda_rxbuf] at href
    rw [href, State.pollMiss_xch (by simpa using hx), hpolled, State.setAgenda_pollRead]
    rfl

end Sys2Proof.Machine
end

section
/-! Waits and how they end. Polls that miss lead to the wait's bound: an exchange that receives nothing times out on poll
300 (O38), and a stage without its byte fails on poll 30 (O39). Whatever polls return, the polls a wait can still make grow
fewer, so it ends (O40). -/

namespace Sys2Proof.Machine

/-! ### The bound of a wait -/

/-- The number of polls a wait makes (R225, R226, R233). -/
def Ctl.polls : Ctl → Nat
  | .idle => 0
  | .hsEnq => 30
  | .hsStart => 30
  | .xch => 300

theorem Ctl.polls_of_isStage {c : Ctl} (h : c.isStage = true) : c.polls = 30 := by
  cases c with
  | hsEnq | hsStart => rfl
  | idle | xch => cases h

theorem Ctl.polls_le (c : Ctl) : c.polls ≤ 300 := by
  cases c with
  | idle | hsEnq | hsStart | xch => decide

/-- Below its bound a wait has not ended. -/
theorem Ctl.ne_idle_of_lt_polls {c : Ctl} {n : Nat} (h : n < c.polls) : c ≠ .idle := by
  rintro rfl
  exact Nat.not_lt_zero n h

/-- Below the bound the attempts are counted exactly (R35). -/
theorem State.polled_attempt_toNat {s : State} (h : s.attempt.toNat < s.ctl.polls) (c : List Byte) :
    (s.polled c).attempt.toNat = s.attempt.toNat + 1 := by
  have hle := s.ctl.polls_le
  rw [State.polled_attempt]
  bv_omega

/-- A miss below the bound is another wait (R225, R226, R234). -/
theorem State.pollMiss_of_lt {u : State} (h : u.attempt.toNat < u.ctl.polls) : u.pollMiss = u := by
  obtain ⟨hs, _, -⟩ | ⟨hx, -⟩ | ⟨hu, -⟩ := u.pollMiss_cases (Ctl.ne_idle_of_lt_polls h)
  · rw [Ctl.polls_of_isStage hs] at h
    rw [State.pollMiss_stage hs, if_neg (by bv_omega)]
  · rw [hx, Ctl.polls] at h
    rw [State.pollMiss_xch hx, if_neg (by bv_omega)]
  · exact hu

/-! ### Runs of misses -/

theorem State.polled_setAgenda (s : State) (l : List Move) (c : List Byte) :
    (s.setAgenda l).polled c = (s.polled c).setAgenda l := by
  by_cases hx : s.ctl = .xch
  · rw [State.polled_xch s c hx, State.polled_xch (s.setAgenda l) c hx]; rfl
  · rw [State.polled_stage s c hx, State.polled_stage (s.setAgenda l) c hx]; rfl

theorem State.pollMiss_setAgenda (s : State) (l : List Move) :
    (s.setAgenda l).pollMiss = s.pollMiss.setAgenda l := by
  unfold State.pollMiss
  rw [State.setAgenda_ctl, State.setAgenda_attempt]
  cases s.ctl with
  | idle => rfl
  | hsEnq | hsStart | xch => dsimp only; split <;> rfl

/-- A first poll that misses, and the run behind it. -/
theorem State.after_miss {s : State} {c : List Byte} (hc : s.ctl ≠ .idle) (hn : (s.polled c).recognise c = none)
    (cs : List (List Byte)) (moves : List Move) :
    s.after (pollMoves (c :: cs)) moves = (s.polled c).pollMiss.after (pollMoves cs) moves := by
  have hn' : ((s.setAgenda (pollMoves cs ++ moves)).polled c).recognise c = none := by
    rw [State.polled_setAgenda]; exact hn
  rw [State.after_poll hc (.inr ⟨hn', rfl⟩), State.polled_setAgenda, State.pollMiss_setAgenda]
  rfl

/-- None of the polls recognises anything, each made where the ones before it lead. -/
def State.Misses : State → List (List Byte) → Prop
  | _, [] => True
  | s, c :: cs => (s.polled c).recognise c = none ∧ (s.polled c).Misses cs

/-- A run of misses only polls, and its last miss tests the bound. -/
theorem State.after_misses (moves : List Move) (chunks : List (List Byte)) : ∀ {s : State},
    s.attempt.toNat < s.ctl.polls → s.attempt.toNat + chunks.length ≤ s.ctl.polls → s.Misses chunks →
    s.after (pollMoves chunks) moves = .next ((chunks.foldl State.polled s).pollMiss.setAgenda moves) := by
  induction chunks with
  | nil =>
    intro s hlt _ _
    rw [List.foldl_nil, State.pollMiss_of_lt hlt]
    rfl
  | cons c cs ih =>
    rintro s hlt hle ⟨hn, hms⟩
    have hatt := State.polled_attempt_toNat hlt c
    rw [List.length_cons] at hle
    rw [State.after_miss (Ctl.ne_idle_of_lt_polls hlt) hn, List.foldl_cons]
    by_cases hcs : cs = []
    · subst hcs
      rfl
    · have hpos : 0 < cs.length := List.length_pos_iff.2 hcs
      have hlt' : (s.polled c).attempt.toNat < (s.polled c).ctl.polls := by rw [hatt, State.polled_ctl]; omega
      rw [State.pollMiss_of_lt hlt']
      exact ih hlt' (by rw [hatt, State.polled_ctl]; omega) hms

/-- What `n` polls that only read and count leave of the state (R225, R226, R233). -/
structure State.WaitedTo (s t : State) (n : Nat) : Prop where
  ctl : t.ctl = s.ctl
  session : t.session = s.session
  result : t.result = s.result
  sent : sent t.history = sent s.history
  attempt : t.attempt = s.attempt + BitVec.ofNat 9 n

/-- The transport operations of a poll send nothing. -/
theorem sent_append_rx (es : List Event) (c : List Byte) : sent (es ++ [.rx c]) = sent es := by
  induction es with
  | nil => rfl
  | cons e es ih => cases e <;> simp [sent, ih]

theorem State.foldl_polled (chunks : List (List Byte)) : ∀ s : State,
    s.WaitedTo (chunks.foldl State.polled s) chunks.length := by
  induction chunks with
  | nil => exact fun s => ⟨rfl, rfl, rfl, rfl, by simp⟩
  | cons c cs ih =>
    intro s
    obtain ⟨hctl, hsession, hresult, hsent, hattempt⟩ := ih (s.polled c)
    refine ⟨by simpa using hctl, by simpa using hsession, by simpa using hresult, ?_, ?_⟩
    · rw [List.foldl_cons, hsent, State.polled_history, sent_append_rx]
    · rw [List.foldl_cons, hattempt, State.polled_attempt, List.length_cons]
      bv_omega

/-- From the start of a wait, the attempts count the polls. -/
theorem State.WaitedTo.attempt_toNat {s t : State} {n : Nat} (h : s.WaitedTo t n) (h0 : s.attempt = 0) (hn : n ≤ 300) :
    t.attempt.toNat = n := by
  rw [h.attempt, h0]
  bv_omega

/-! ### An exchange that receives nothing -/

/-- An empty poll leaves the decoder of an empty buffer where it was, and recognises nothing (R183). -/
theorem State.misses_replicate_nil (k : Nat) : ∀ {s : State}, s.ctl = .xch → s.dec = .awaitAck → s.rxbuf = [] →
    s.Misses (List.replicate k []) := by
  induction k with
  | zero => exact fun _ _ _ => trivial
  | succ k ih =>
    intro s hx hd hb
    have hctl : (s.polled []).ctl = .xch := by simpa using hx
    have hbuf : (s.polled []).rxbuf = [] := by simp [hx, hb, appendRx]
    have hdec : (s.polled []).dec = .awaitAck := by simp [s.polled_xch [] hx, hd, hb, appendRx, advanceDec]
    have hn : (s.polled []).recognise [] = none := by
      rw [State.recognise_ack _ _ hctl hdec, if_neg fun h => h.1 hbuf]
    exact ⟨hn, ih hctl hdec hbuf⟩

/-- Settles O38: the empty polls are a run of misses, and the last of 300 finds the bound. -/
theorem timeoutOnPoll300 : Obligations.TimeoutOnPoll300 := by
  intro s moves k hx hd hb h0 hk
  have hlen : (List.replicate k ([] : List Byte)).length = k := List.length_replicate
  have hw := State.foldl_polled (List.replicate k []) s
  rw [hlen] at hw
  have hatt := hw.attempt_toNat h0 hk
  refine ⟨_, State.after_misses moves _ (by simp [h0, hx, Ctl.polls]) (by simpa [h0, hx, Ctl.polls] using hk)
    (State.misses_replicate_nil k hx hd hb), fun hlt => ?_, fun heq => ?_⟩
  · rw [State.pollMiss_of_lt (by rw [hatt, hw.ctl, hx]; exact hlt)]
    exact ⟨hw.ctl.trans hx, hatt, hw.result⟩
  · rw [State.pollMiss_xch (hw.ctl.trans hx), if_pos (by bv_omega)]
    exact ⟨rfl, rfl, rfl, rfl, hw.session⟩

/-! ### A stage without its byte -/

theorem State.misses_of_notMem {b : Byte} (chunks : List (List Byte)) : ∀ {s : State}, s.ctl.WaitsFor b →
    (∀ c ∈ chunks, b ∉ c) → s.Misses chunks := by
  induction chunks with
  | nil => exact fun _ _ => trivial
  | cons c cs ih =>
    intro s hs hm
    obtain ⟨hc, hcs⟩ := List.forall_mem_cons.1 hm
    have hctl : (s.polled c).ctl.WaitsFor b := by simpa using hs
    exact ⟨(State.recognise_eq_none_iff hctl c).2 hc, ih hctl hcs⟩

/-- Settles O39: polls without the stage's byte are a run of misses, and the last of 30 finds the bound. -/
theorem stageFailsOnPoll30 : Obligations.StageFailsOnPoll30 := by
  intro s moves chunks b hs h0 hm hlen
  have hs : s.ctl.WaitsFor b := hs
  have hpolls := Ctl.polls_of_isStage hs.isStage
  have hw := State.foldl_polled chunks s
  have hatt := hw.attempt_toNat h0 (by omega)
  have hstage : (chunks.foldl State.polled s).ctl.isStage = true := by rw [hw.ctl]; exact hs.isStage
  refine ⟨_, State.after_misses moves chunks (by simp [h0, hpolls]) (by simpa [h0, hpolls] using hlen)
    (State.misses_of_notMem chunks hs hm), ?_, fun hlt => ?_, fun heq => ?_⟩
  · rw [State.setAgenda_history, State.pollMiss_history _ (by rw [hw.ctl]; exact hs.ne_idle), hw.sent]
  · rw [State.pollMiss_of_lt (by rw [hatt, hw.ctl, hpolls]; exact hlt)]
    exact ⟨hw.ctl, hatt⟩
  · rw [State.pollMiss_stage hstage, if_pos (by bv_omega), hw.ctl]
    exact ⟨rfl, rfl, rfl, rfl⟩

/-! ### Every wait ends -/

/-- The command is over, with a code to show for it. -/
structure State.Completed (s : State) : Prop where
  ctl : s.ctl = .idle
  done : s.done = true
  result : s.result ≠ .none

theorem State.raiseOutcome_completed (s : State) {code : Code} (p : List Byte) (h : code ≠ .none) :
    (s.raiseOutcome code p).Completed := ⟨rfl, rfl, h⟩

theorem State.completeXch_completed (s : State) (out : DecOutcome) : (s.completeXch out).Completed := by
  rw [State.completeXch_eq]
  exact s.raiseOutcome_completed _ (by cases out <;> exact nofun)

/-- A poll ends the command, ends the ENQ stage, or waits on. -/
theorem State.PollLeadsTo.completed_or_waits {u t : State} {c : List Byte} (hp : u.PollLeadsTo c t)
    (hc : u.ctl ≠ .idle) : t.Completed ∨ (u.ctl = .hsEnq ∧ t.ctl = .hsStart) ∨ t = u := by
  obtain ⟨i, hi, ht⟩ | ⟨-, rfl⟩ := hp
  · obtain ⟨he, -, rfl⟩ | ⟨-, -, rfl⟩ | ⟨-, rfl | rfl | ⟨r, out, -, -, rfl⟩⟩ := u.exec_recognised t c i hi ht
    · exact .inr (.inl ⟨he, rfl⟩)
    · exact .inl (State.raiseOutcome_completed _ _ nofun)
    · exact .inl (State.raiseOutcome_completed _ _ nofun)
    · exact .inl (State.raiseOutcome_completed _ _ nofun)
    · exact .inl (State.completeXch_completed _ out)
  · obtain ⟨hs, _, -⟩ | ⟨-, ht⟩ | ⟨ht, -⟩ := u.pollMiss_cases hc
    · rw [State.pollMiss_stage hs]
      split
      · exact .inl (State.raiseOutcome_completed _ _ u.ctl.failCode_ne_none)
      · exact .inr (.inr rfl)
    · rw [ht]; exact .inl (State.raiseOutcome_completed _ _ nofun)
    · exact .inr (.inr ht)

/-- The polls from the start of a wait to the end of its command: behind the ENQ stage comes the START stage (R240). -/
def Ctl.pollsToEnd : Ctl → Nat
  | .idle => 0
  | .hsEnq => 60
  | .hsStart => 30
  | .xch => 300

theorem Ctl.polls_le_pollsToEnd (c : Ctl) : c.polls ≤ c.pollsToEnd := by
  cases c with
  | idle | hsEnq | hsStart | xch => decide

theorem Ctl.pollsToEnd_of_isStage {c : Ctl} (h : c.isStage = true) : c.pollsToEnd ≤ 60 := by
  cases c with
  | hsEnq | hsStart => decide
  | idle | xch => cases h

/-- How many polls a waiting engine can still make. -/
def State.pollsLeft (s : State) : Nat := s.ctl.pollsToEnd - s.attempt.toNat

theorem State.Inv.attempt_lt_polls {s : State} (h : s.Inv) (hc : s.ctl ≠ .idle) : s.attempt.toNat < s.ctl.polls := by
  cases hctl : s.ctl with
  | idle => exact absurd hctl hc
  | hsEnq | hsStart => exact h.stagePolls (by rw [hctl]; rfl)
  | xch => exact h.exchangePolls hctl

theorem State.Inv.pollsLeft_pos {s : State} (h : s.Inv) (hc : s.ctl ≠ .idle) : 0 < s.pollsLeft :=
  Nat.sub_pos_of_lt ((h.attempt_lt_polls hc).trans_le s.ctl.polls_le_pollsToEnd)

/-- A poll that does not end the command leaves fewer polls to make. -/
theorem State.PollLeadsTo.pollsLeft_lt {s t : State} {c : List Byte} (hp : (s.polled c).PollLeadsTo c t)
    (hc : s.ctl ≠ .idle) (h : s.Inv) : t.Completed ∨ (t.ctl ≠ .idle ∧ t.pollsLeft < s.pollsLeft) := by
  have hlt := h.attempt_lt_polls hc
  obtain ht | ⟨he, ht⟩ | rfl := hp.completed_or_waits (by simpa using hc)
  · exact .inl ht
  · rw [State.polled_ctl] at he
    rw [he, Ctl.polls] at hlt
    refine .inr ⟨by simp [ht], ?_⟩
    rw [State.pollsLeft, State.pollsLeft, he, ht, Ctl.pollsToEnd, Ctl.pollsToEnd]
    omega
  · have hend := s.ctl.polls_le_pollsToEnd
    have hatt := State.polled_attempt_toNat hlt c
    refine .inr ⟨by simpa using hc, ?_⟩
    rw [State.pollsLeft, State.pollsLeft, State.polled_ctl, hatt]
    omega

/-- As many polls as a waiting engine can make end its command, whatever they return. -/
theorem State.Inv.after_pollMoves (moves : List Move) (chunks : List (List Byte)) : ∀ {s : State}, s.Inv →
    s.ctl ≠ .idle → s.pollsLeft ≤ chunks.length →
    ∃ t : State, s.after (pollMoves chunks) moves = .next t ∧ t.Completed := by
  induction chunks with
  | nil => exact fun h hc hle => absurd hle (Nat.not_le.2 (h.pollsLeft_pos hc))
  | cons c cs ih =>
    intro s h hc hle
    have hs : (s.setAgenda (pollMoves cs ++ moves)).Inv := h.congr rfl rfl rfl rfl rfl rfl
    obtain ⟨t, hp⟩ := ((s.setAgenda (pollMoves cs ++ moves)).polled c).exists_pollLeadsTo c
    rw [State.after_poll hc hp]
    obtain ht | ⟨ht, hlt⟩ := hp.pollsLeft_lt hc hs
    · exact ⟨_, State.after_pollMoves_idle cs moves ht.ctl, ht.ctl, ht.done, ht.result⟩
    · exact ih (hs.poll hc c hp) ht (Nat.le_of_lt_succ (hlt.trans_le hle))

/-- Settles O40: the polls left are at most 300 in an exchange and 60 in a handshake. -/
theorem waitsAreBounded : Obligations.WaitsAreBounded := by
  intro s moves chunks h hlen
  have hwait : s.ctl ≠ .idle ∧ s.ctl.pollsToEnd ≤ chunks.length := by
    obtain ⟨hx, hl⟩ | ⟨hs, hl⟩ := hlen
    · exact ⟨by simp [hx], by rw [hx, hl, Ctl.pollsToEnd]⟩
    · exact ⟨fun hi => by simp [hi, Ctl.isStage] at hs, hl ▸ Ctl.pollsToEnd_of_isStage hs⟩
  obtain ⟨t, ht, hend⟩ := h.after_pollMoves moves chunks hwait.1 ((Nat.sub_le _ _).trans hwait.2)
  exact ⟨t, ht, hend.ctl, hend.done, hend.result⟩

end Sys2Proof.Machine
end

section
/-! The session moves only along the table of R223 (O58): what a command and a poll do to it, each said once. -/

namespace Sys2Proof.Machine

/-- Of the accepted commands HANDSHAKE and CLOSE move the session (R224, R238). -/
theorem acceptOf_session_cases (v : Byte) (s : State) : (acceptOf v s).session = s.session ∨
    (v = 0x10#8 ∧ (acceptOf v s).session = .handshaking) ∨ (v = 0x11#8 ∧ (acceptOf v s).session = .uninitialized) := by
  obtain ⟨code, ht⟩ | ht | ⟨hv, ht⟩ | ⟨hv, ht⟩ | ⟨-, -, l, o, ht⟩ | ⟨-, -, l, ht⟩ := acceptOf_cases v s <;> rw [ht]
  · exact .inl rfl
  · exact .inl rfl
  · exact .inr (.inr ⟨hv, rfl⟩)
  · exact .inr (.inl ⟨hv, rfl⟩)
  · exact .inl (by simp)
  · exact .inl (by simp)

/-- A command byte moves the session only where it is accepted (R220). -/
theorem State.dispatch_session_cases (s : State) (v : Byte) : (s.dispatch v (acceptOf v)).session = s.session ∨
    (s.ctl = .idle ∧ ((v = 0x10#8 ∧ (s.dispatch v (acceptOf v)).session = .handshaking) ∨
      (v = 0x11#8 ∧ (s.dispatch v (acceptOf v)).session = .uninitialized))) := by
  by_cases hi : s.ctl = .idle
  · rw [State.dispatch_idle _ _ _ hi]
    exact (acceptOf_session_cases v (s.preamble v)).imp_right fun h => ⟨hi, h⟩
  · rw [State.dispatch_busy _ _ _ hi]
    exact .inl rfl

/-- Of the polls two move the session, sending nothing: the START stage's byte, and the last miss of a stage
(R225, R226). No end of an exchange moves it. -/
theorem State.PollLeadsTo.session_cases {u t : State} {c : List Byte} (hp : u.PollLeadsTo c t) (hc : u.ctl ≠ .idle) :
    t.session = u.session ∨
    (t.session = .ready ∧ u.ctl = .hsStart ∧ t.history = u.history ∧ 0x06#8 ∈ c) ∨
    (t.session = .faulted ∧ u.attempt = 30 ∧ t.history = u.history ∧ ∃ b, u.ctl.WaitsFor b ∧ b ∉ c) := by
  obtain ⟨i, hi, ht⟩ | ⟨hn, rfl⟩ := hp
  · obtain ⟨-, -, rfl⟩ | ⟨hs, hm, rfl⟩ | ⟨-, rfl | rfl | ⟨r, out, -, -, rfl⟩⟩ := u.exec_recognised t c i hi ht
    · exact .inl rfl
    · exact .inr (.inl ⟨rfl, hs, rfl, hm⟩)
    · exact .inl rfl
    · exact .inl rfl
    · rw [State.completeXch_eq]; exact .inl rfl
  · obtain ⟨hs, -⟩ | ⟨-, ht⟩ | ⟨ht, -⟩ := u.pollMiss_cases hc
    · obtain ⟨b, hb⟩ := Ctl.exists_waitsFor hs
      rw [State.pollMiss_stage hs]
      split
      next ha => exact .inr (.inr ⟨rfl, ha, rfl, b, hb, (State.recognise_eq_none_iff hb c).1 hn⟩)
      next => exact .inl rfl
    · rw [ht]; exact .inl rfl
    · rw [ht]; exact .inl rfl

/-- In a stage the session is `HANDSHAKING` (R42). -/
theorem State.Inv.handshaking {s : State} (h : s.Inv) {b : Byte} (hs : s.ctl.WaitsFor b) : s.session = .handshaking :=
  h.staged.1 hs.isStage

/-- Settles O58: of the steps of `step_cases` a reset, a command and a poll can move the session:
`State.dispatch_session_cases`, `State.PollLeadsTo.session_cases`. -/
theorem sessionTransitions : Obligations.SessionTransitions := by
  intro s t hs h
  obtain ⟨-, -, rfl⟩ | ⟨off, rest, -, rfl⟩ | ⟨rest, -, rfl⟩ | ⟨rest, ha, rfl⟩ | ⟨off, v, rest, -, -, rfl⟩ |
    ⟨v, rest, ha, rfl⟩ | ⟨c, rest, -, -, rfl⟩ | ⟨c, rest, -, hi, hp⟩ := step_cases s t h
  · exact .inl rfl
  · exact .inl rfl
  · exact .inl rfl
  · exact .inr (.inr (.inr (.inr (.inr ⟨rfl, rest, ha⟩))))
  · obtain ⟨-, hsession, -⟩ := (s.setAgenda rest).hostWrite_frame off v
    exact .inl hsession
  · obtain ht | ⟨hi, ⟨rfl, ht⟩ | ⟨rfl, ht⟩⟩ := (s.setAgenda rest).tickUp.dispatch_session_cases v
    · exact .inl ht
    · exact .inr (.inl ⟨ht, hi, rest, ha⟩)
    · exact .inr (.inr (.inr (.inr (.inl ⟨ht, hi, rest, ha⟩))))
  · exact .inl rfl
  · have hp : ((s.setAgenda rest).polled c).PollLeadsTo c t := hp
    obtain ht | ⟨ht, hc, hh, hm⟩ | ⟨ht, ha, hh, b, hb, hm⟩ := hp.session_cases (by simpa using hi)
    · exact .inl (by simpa using ht)
    · have hc : s.ctl = .hsStart := by simpa using hc
      exact .inr (.inr (.inl ⟨ht, hs.handshaking (.inr ⟨hc, rfl⟩), hc, c, by simpa using hh, hm⟩))
    · have hb : s.ctl.WaitsFor b := by simpa using hb
      refine .inr (.inr (.inr (.inl ⟨ht, hs.handshaking hb, by simpa using ha, c, by simpa using hh, ?_⟩)))
      obtain ⟨hc, rfl⟩ | ⟨hc, rfl⟩ := hb
      · exact .inl ⟨hc, hm⟩
      · exact .inr ⟨hc, hm⟩

end Sys2Proof.Machine
end

section
/-! What section 1 of the exceptions says of every step and every `CMD` write (O15, O24), and the completion action, read
through the host's registers (O32). -/

namespace Sys2Proof.Machine

/-- Settles O15: a step that fetches an instruction answers as the instruction does (`exec_answers`); without one it
answers the state fetched. -/
theorem everyStepAnswers : Obligations.EveryStepAnswers := by
  intro s
  unfold step
  rcases s.fetch with ⟨_ | i, t⟩
  · exact ⟨t, rfl⟩
  · exact exec_answers i t

/-! ### The order of causes at a `CMD` write -/

/-- The command bytes, said as the five opcodes (R106). -/
theorem isCommandOpcode_eq_true {v : Byte} : isCommandOpcode v = true ↔
    v = 0x01#8 ∨ v = 0x02#8 ∨ v = 0x07#8 ∨ v = 0x10#8 ∨ v = 0x11#8 := by
  simp only [isCommandOpcode, Bool.or_eq_true, beq_iff_eq, or_assoc]

theorem acceptOf_of_reserved {v : Byte} (s : State) (h : isCommandOpcode v = false) :
    acceptOf v s = s.raiseOutcome .illegalCommand [] := by
  have hv : ¬ isCommandOpcode v = true := by simp [h]
  simp only [isCommandOpcode_eq_true, not_or] at hv
  obtain ⟨hread, hwrite, hrpc, hhandshake, hclose⟩ := hv
  rw [acceptOf, if_neg hread, if_neg hwrite, if_neg hrpc, if_neg hhandshake, if_neg hclose, State.acceptReserved]

/-- READ, WRITE and RPC complete at once without a ready session (R231). -/
theorem acceptOf_of_not_ready {v : Byte} {s : State} (hv : v = 0x01#8 ∨ v = 0x02#8 ∨ v = 0x07#8)
    (hs : s.session ≠ .ready) : acceptOf v s = s.raiseOutcome .notReady [] := by
  obtain rfl | rfl | rfl := hv
  · exact State.acceptRead_of_not_ready hs
  · exact State.acceptWrite_of_not_ready hs
  · exact State.acceptRpc_of_not_ready hs

/-- WRITE and RPC in a ready session complete after the clear when their length does not fit (R232). -/
theorem acceptOf_of_long {v : Byte} {s : State} (hs : s.session = .ready)
    (hl : (v = 0x02#8 ∧ 250 < s.txlen.toNat) ∨ (v = 0x07#8 ∧ 249 < s.txlen.toNat)) :
    acceptOf v s = s.rxClear.raiseOutcome .invalidLength [] := by
  obtain ⟨rfl, hl⟩ | ⟨rfl, hl⟩ := hl
  · exact State.acceptWrite_of_long hs hl
  · exact State.acceptRpc_of_long hs hl

/-- No cause of R277: the command waits with no result yet, or is CLOSE, which completes with `OK`. -/
theorem acceptOf_result_of_no_cause {v : Byte} {s : State} (hv : isCommandOpcode v = true)
    (hs : v = 0x01#8 ∨ v = 0x02#8 ∨ v = 0x07#8 → s.session = .ready)
    (h250 : v = 0x02#8 → s.txlen.toNat ≤ 250) (h249 : v = 0x07#8 → s.txlen.toNat ≤ 249) :
    (acceptOf v s).result = s.result ∨ (acceptOf v s).result = .ok := by
  obtain rfl | rfl | rfl | rfl | rfl := isCommandOpcode_eq_true.1 hv
  · have hread : acceptOf 0x01#8 s = _ := State.acceptRead_of_ready (hs (by simp))
    exact .inl (by rw [hread, sendRead]; simp)
  · have hwrite : acceptOf 0x02#8 s = _ := State.acceptWrite_of_ready (hs (by simp)) (h250 rfl)
    exact .inl (by rw [hwrite, sendWrite]; simp)
  · have hrpc : acceptOf 0x07#8 s = _ := State.acceptRpc_of_ready (hs (by simp)) (h249 rfl)
    exact .inl (by rw [hrpc, sendRpc]; simp)
  · exact .inl rfl
  · exact .inr rfl

/-- Settles O24: each branch of the order is one equation of the dispatch or of the accepted command; the preamble leaves
the session and the length that the causes look at. -/
theorem dispatchPriority : Obligations.DispatchPriority := by
  intro s v
  refine ⟨_, exec_command s v, ?_⟩
  by_cases hidle : s.ctl = .idle
  · rw [if_neg (not_not.2 hidle), State.dispatch_idle s v _ hidle]
    split_ifs with hreserved hnot hlong
    · rw [acceptOf_of_reserved _ hreserved]
      exact ⟨rfl, rfl, rfl⟩
    · rw [acceptOf_of_not_ready (s := s.preamble v) hnot.1 hnot.2]
      exact ⟨rfl, rfl, rfl⟩
    · have hready : s.session = .ready := not_not.1 fun hs => hnot ⟨.inr (hlong.imp And.left And.left), hs⟩
      rw [acceptOf_of_long (s := s.preamble v) hready hlong]
      exact ⟨rfl, rfl, rfl⟩
    · exact acceptOf_result_of_no_cause (s := s.preamble v) (eq_true_of_ne_false hreserved)
        (fun hv => not_not.1 fun hs => hnot ⟨hv, hs⟩) (fun hv => Nat.le_of_not_lt fun hl => hlong (.inl ⟨hv, hl⟩))
        (fun hv => Nat.le_of_not_lt fun hl => hlong (.inr ⟨hv, hl⟩))
  · rw [if_pos hidle]
    exact State.dispatch_busy s v _ hidle

/-! ### The completion action -/

section
variable (s : State) (code : Code) (p : List Byte)

/-- Posting a payload that fits leaves `RXLEN` at its length (R276). -/
theorem State.raiseOutcome_rxlen_toNat (hp : p.length ≤ 250) : (s.raiseOutcome code p).rxlen.toNat = p.length := by
  rw [State.raiseOutcome_rxlen, countByte_toNat]; omega

/-- The posted bytes are what `RXDATA` reads below `RXLEN` (R32, R276). -/
theorem State.raiseOutcome_rxdata (hp : p.length ≤ 250) {i : Nat} (hi : i < p.length) :
    (s.raiseOutcome code p).rxdata i = byteAt p i := by
  rw [State.rxdata, State.raiseOutcome_rxlen_toNat s code p hp, if_pos hi, State.raiseOutcome_mem,
    Memory.get_setList_inside p _ _ _ hi, Option.getD_some, byteAt_lt p i hi]

/-- The completion action does not write `TXDATA` (R276). -/
theorem State.raiseOutcome_txdata {i : Nat} (hi : i < 256) : (s.raiseOutcome code p).txdata i = s.txdata i := by
  have hmem : Memory.get (Memory.setList s.mem rxBase p) (txBase + i) = Memory.get s.mem (txBase + i) :=
    Memory.get_setList_outside p _ _ _ (.inl (by rw [txBase, rxBase]; omega))
  rw [State.txdata, State.raiseOutcome_mem, hmem]
  rfl

end

/-- Settles O32: the host reads by `registerMap`, the cells by the laws of memory, every other field by the definition of
the completion action. -/
theorem completionAction : Obligations.CompletionAction := by
  refine ⟨?_, fun r hr => responsePayload_length r ((Response.wf_iff r).1 hr)⟩
  rintro s t code p hp rfl
  obtain ⟨-, -, hresult, -, -, -, -, -, hrxlen, hdata⟩ := registerMap.1 (s.raiseOutcome code p)
  refine ⟨hresult, ?_, fun i hi => ?_, fun a ha => Memory.get_setList_outside p s.mem rxBase a ha, rfl, rfl, rfl, rfl, rfl,
    rfl, rfl, rfl, rfl, rfl, rfl, rfl, rfl, rfl, rfl, rfl, fun i hi => s.raiseOutcome_txdata code p hi, rfl, rfl, rfl, rfl,
    rfl, rfl⟩
  · rw [hrxlen, s.raiseOutcome_rxlen_toNat code p hp]
  · rw [(hdata i (by omega)).2, s.raiseOutcome_rxdata code p hp hi]

end Sys2Proof.Machine
end

section
/-! The reset event (O52): a pending reset is the next step's whole effect, whatever the engine is waiting for. -/

namespace Sys2Proof.Machine

/-- A pending reset is no instruction: the step is the reset event, in any control state (R300). -/
theorem step_reset (s : State) (moves : List Move) (ha : s.agenda = .reset :: moves) :
    step s = .next (s.setAgenda moves).resetEvent := by
  simp [step, State.fetch, ha]

/-- Settles O52: the step is `step_reset`, and the reset event keeps only what lies outside the engine. -/
theorem resetEvent : Obligations.ResetEvent := step_reset

end Sys2Proof.Machine
end
